-- ==== Sys2Proof/Word.lean ====
section
/-! DEFINITION. The word types of the core (spec/10_state.md R26, R28; spec/20_memory.md R60). -/

namespace Sys2Proof

/-- One byte of host memory (R60, R67). -/
abbrev Byte := BitVec 8

/-- A halfword: the widest word the polled strategy moves (spec/43_transfer.md R179). -/
abbrev Half := BitVec 16

/-- A peripheral register or a command word (R26, R28). -/
abbrev Word := BitVec 32

/-- An operand or result register (R26). -/
abbrev DWord := BitVec 64

/-- `zext_64` of a 32-bit value (spec/00_scope.md R11). -/
abbrev zext64 (w : Word) : DWord := w.setWidth 64

end Sys2Proof
end

