-- ==== Sys2Proof/Syntax.lean ====
section
/-! DEFINITION. The nine commands (spec/30_encoding.md R91), one constructor per row of spec/opcode_table.json. The operands are
the CMD fields of R90 and R93; the operands in A[0..2] are read from the state. -/

namespace Sys2Proof

/-- A command word that spells a command (R92). A chip-select index is the 3-bit field CSI, a flag is one bit, so every term
of this type is well formed (R93). -/
inductive Instr where
  /-- R221. -/
  | setup
  /-- R224. -/
  | claim (cs : BitVec 3)
  /-- R227. -/
  | release
  /-- R126. -/
  | clkCompute
  /-- R127. -/
  | setSpeed
  /-- R144. -/
  | modeCompute (cpha cpol lsb : Bool)
  /-- R145. -/
  | setMode (cpha cpol lsb : Bool)
  /-- R157. -/
  | resolve (cs : BitVec 3) (hasOut hasIn : Bool)
  /-- R172. -/
  | xfer (beginSel endSel hasOut hasIn : Bool)
deriving DecidableEq, Repr

/-- The nine assigned opcodes (R91). -/
inductive Opcode where
  | setup
  | claim
  | release
  | clkCompute
  | setSpeed
  | modeCompute
  | setMode
  | resolve
  | xfer
deriving DecidableEq, Repr

end Sys2Proof
end

