-- ==== Sys2Proof/Decode.lean ====
section
/-! DEFINITION. Decoding a command word, total and strict (spec/30_encoding.md R90 to R93, R96, R97), and the encoder written from the
same rows. The operand constraints of R94 are not decoding: they are checked by each command's meaning
(Sys2Proof/Machine/Operands.lean). -/

namespace Sys2Proof

/-- Why a command word spells no command (R96): its opcode is reserved, or a reserved or unused bit is not 0. -/
inductive Reject where
  | reservedOpcode
  | nonzeroUnusedBits
deriving DecidableEq, Repr

/-- The opcode map (R91). The values it omits are reserved (R97). -/
def Opcode.ofField (op : BitVec 4) : Option Opcode :=
  match op.toNat with
  | 0x1 => some .setup
  | 0x2 => some .claim
  | 0x3 => some .release
  | 0x4 => some .clkCompute
  | 0x5 => some .setSpeed
  | 0x6 => some .modeCompute
  | 0x7 => some .setMode
  | 0x8 => some .resolve
  | 0x9 => some .xfer
  | _ => none

/-- The "match" column of R92. -/
def Opcode.matchWord : Opcode → Word
  | .setup => 0x00000001
  | .claim => 0x00000002
  | .release => 0x00000003
  | .clkCompute => 0x00000004
  | .setSpeed => 0x00000005
  | .modeCompute => 0x00000006
  | .setMode => 0x00000007
  | .resolve => 0x00000008
  | .xfer => 0x00000009

/-- The "mask" column of R92. -/
def Opcode.mask : Opcode → Word
  | .setup => 0xFFFFFFFF
  | .claim => 0xFFFFF8FF
  | .release => 0xFFFFFFFF
  | .clkCompute => 0xFFFFFFFF
  | .setSpeed => 0xFFFFFFFF
  | .modeCompute => 0xFFFFC7FF
  | .setMode => 0xFFFFC7FF
  | .resolve => 0xFFFFF83F
  | .xfer => 0xFFFFFF0F

/-- `CSI = CMD[10:8]` (R93). -/
def csiField (w : Word) : BitVec 3 := w.extractLsb' 8 3

/-- The command a word of this row spells: its fields, taken as they are (R90, R93). -/
def Opcode.instr (w : Word) : Opcode → Instr
  | .setup => .setup
  | .claim => .claim (csiField w)
  | .release => .release
  | .clkCompute => .clkCompute
  | .setSpeed => .setSpeed
  | .modeCompute => .modeCompute (w.getLsbD 11) (w.getLsbD 12) (w.getLsbD 13)
  | .setMode => .setMode (w.getLsbD 11) (w.getLsbD 12) (w.getLsbD 13)
  | .resolve => .resolve (csiField w) (w.getLsbD 6) (w.getLsbD 7)
  | .xfer => .xfer (w.getLsbD 4) (w.getLsbD 5) (w.getLsbD 6) (w.getLsbD 7)

/-- R96, steps 1 and 2: the opcode first, then the row's fixed bits. -/
def decode (w : Word) : Except Reject Instr :=
  match Opcode.ofField (w.extractLsb' 0 4) with
  | none => .error .reservedOpcode
  | some op => if w &&& op.mask = op.matchWord then .ok (op.instr w) else .error .nonzeroUnusedBits

/-- The row of a command (R91). -/
def Instr.opcode : Instr → Opcode
  | .setup => .setup
  | .claim _ => .claim
  | .release => .release
  | .clkCompute => .clkCompute
  | .setSpeed => .setSpeed
  | .modeCompute _ _ _ => .modeCompute
  | .setMode _ _ _ => .setMode
  | .resolve _ _ _ => .resolve
  | .xfer _ _ _ _ => .xfer

/-- A one-bit field of CMD at bit `pos`. -/
def flagBit (pos : Nat) (b : Bool) : Word := bif b then (1 : Word) <<< pos else 0

/-- The field bits of a command, in the places of R90. -/
def Instr.fieldBits : Instr → Word
  | .setup => 0
  | .claim cs => cs.setWidth 32 <<< 8
  | .release => 0
  | .clkCompute => 0
  | .setSpeed => 0
  | .modeCompute cpha cpol lsb => flagBit 11 cpha ||| flagBit 12 cpol ||| flagBit 13 lsb
  | .setMode cpha cpol lsb => flagBit 11 cpha ||| flagBit 12 cpol ||| flagBit 13 lsb
  | .resolve cs hasOut hasIn => cs.setWidth 32 <<< 8 ||| flagBit 6 hasOut ||| flagBit 7 hasIn
  | .xfer beginSel endSel hasOut hasIn =>
    flagBit 4 beginSel ||| flagBit 5 endSel ||| flagBit 6 hasOut ||| flagBit 7 hasIn

/-- The command word of R92 that spells a command. -/
def encode (i : Instr) : Word := i.opcode.matchWord ||| i.fieldBits

/-- The low `nbits` bits of `w` as a command word, the bits above them 0 (a command is one 32-bit word, R90). -/
def tableWord (nbits w : Nat) : Word := BitVec.ofNat 32 (w % 2 ^ nbits)

/-- The command the decoder reads from the word with bits `w`. -/
def decodeTableWord (nbits w : Nat) : Option Instr :=
  match decode (tableWord nbits w) with
  | .ok i => some i
  | .error _ => none

end Sys2Proof
end

