-- ==== Sys2Proof/Config.lean ====
section
/-! DEFINITION. The launch parameters of spec/00_scope.md R9, as plain data, and the free values: what the peripheral supplies
(spec/10_state.md R41, R42) and an oversized `zext_64` (log 9). `Params` says nothing about which parameters are admissible: that is
Sys2Proof/WellFormed.lean (R10, R31). -/

namespace Sys2Proof

/-- `TIMEOUT_POLICY` (spec/43_transfer.md R184). -/
inductive TimeoutPolicy where
  | continues
  | abort
deriving DecidableEq, Repr

/-- The register offsets `OFF_CTRL` .. `OFF_DWCFG` (spec/10_state.md R28). -/
structure Offsets where
  ctrl  : Nat := 0x00
  cfg   : Nat := 0x04
  dout  : Nat := 0x08
  din   : Nat := 0x0C
  cause : Nat := 0x10
  mask  : Nat := 0x14
  dwcfg : Nat := 0x20
deriving DecidableEq, Repr

/-- The positions (lowest bit) of the register fields (spec/10_state.md R29, R30, R33; spec/92_eei_decisions.md D8).
SPR has no entry: its place, bits 3:0, comes from the source (R30). CS is `Params.csW` bits wide, SPPR21 and ADRLEN are two
bits wide, every other field is one bit. -/
structure Layout where
  csEn    : Nat := 0
  ready   : Nat := 1
  cs      : Nat := 2
  sppr0   : Nat := 4
  xferLen : Nat := 5
  sppr21  : Nat := 6
  adrLen  : Nat := 8
  cpol    : Nat := 11
  cpha    : Nat := 12
  txLsbf  : Nat := 13
  rxLsbf  : Nat := 14
  wc      : Nat := 0
deriving DecidableEq, Repr

/-- One direct window: `WINDOW(cs) = (base, size)` (R9). -/
structure Window where
  cs   : Nat
  base : Nat
  size : Nat
deriving DecidableEq, Repr

/-- A range of byte addresses of `HOST_MEM` (spec/20_memory.md R61). -/
structure MemRange where
  base : Nat
  size : Nat
deriving DecidableEq, Repr

/-- The parameters of R9. The core writes none of them (spec/70_reset_and_hazards.md R272).
`HOST_MEM` is given as ranges; `DIRECT_BYTES` as the bit lengths at which it differs from its default `floor(bitlen / 8)`, so
that both stay plain data (log 1). -/
structure Params where
  coreHz        : Word
  validCs       : List Nat
  csW           : Nat
  windows       : List Window
  pollBound     : Nat
  timeoutPolicy : TimeoutPolicy
  directTable   : List (Nat × Nat)
  addrW         : Nat
  regBase       : Nat
  offsets       : Offsets
  layout        : Layout
  maskSetup     : Word
  dwcfgSetup    : Word
  ctrlInit      : Word
  cfgInit       : Word
  hostMem       : List MemRange
deriving DecidableEq, Repr

/-- The common launch of spec/95_test_vectors.md: the defaults of R9 where the table gives one, and for the OPEN parameters
the values the vectors use. DESIGN CHOICE (log 1): the spec fixes none of the OPEN values; no statement rests on them. -/
def Params.common : Params where
  coreHz        := 200000000
  validCs       := [0, 1, 2, 3]
  csW           := 3
  windows       := []
  pollBound     := 1000
  timeoutPolicy := .continues
  directTable   := []
  addrW         := 32
  regBase       := 0
  offsets       := {}
  layout        := {}
  maskSetup     := 0x00000001
  dwcfgSetup    := 0x00000000
  ctrlInit      := 0
  cfgInit       := 0
  hostMem       := [⟨0, 2 ^ 32⟩]

/-- The value of the k-th CAUSE read after reset where no scripted answer covers it: a draw under no law
(spec/10_state.md R41; spec/93_implementation_defined.md I8). -/
opaque Config.freeCause : Nat → Word

/-- The value of the k-th DIN read after reset where no scripted answer covers it: a draw
(spec/10_state.md R42; spec/93_implementation_defined.md I9). -/
opaque Config.freeDin : Nat → Word

/-- What `zext_64` gives for a number that does not fit in 64 bits: the spec states no result there (log 9). -/
opaque Config.freeWide : Nat → DWord

end Sys2Proof
end

