-- ==== Sys2Proof/Machine/Fields.lean ====
section
/-! DEFINITION. Field masks and images of the peripheral registers, over the parameter positions (spec/00_scope.md R13;
spec/10_state.md R29 to R33), and the parameter look-ups every command uses. -/

namespace Sys2Proof.Machine

/-- A mask of `width` ones whose lowest bit is bit `pos`. -/
def fieldMask (pos width : Nat) : Word := BitVec.ofNat 32 ((2 ^ width - 1) * 2 ^ pos)

/-- `img(F, v)`: the value shifted into the field's position (R13). -/
def fieldImg (pos v : Nat) : Word := BitVec.ofNat 32 (v * 2 ^ pos)

def csEnMask (p : Params) : Word := fieldMask p.layout.csEn 1
def readyMask (p : Params) : Word := fieldMask p.layout.ready 1
def csMask (p : Params) : Word := fieldMask p.layout.cs p.csW
def sprMask : Word := fieldMask 0 4
def sppr0Mask (p : Params) : Word := fieldMask p.layout.sppr0 1
def sppr21Mask (p : Params) : Word := fieldMask p.layout.sppr21 2
def xferLenMask (p : Params) : Word := fieldMask p.layout.xferLen 1
def adrLenMask (p : Params) : Word := fieldMask p.layout.adrLen 2
def cpolMask (p : Params) : Word := fieldMask p.layout.cpol 1
def cphaMask (p : Params) : Word := fieldMask p.layout.cpha 1
def txLsbfMask (p : Params) : Word := fieldMask p.layout.txLsbf 1
def rxLsbfMask (p : Params) : Word := fieldMask p.layout.rxLsbf 1
def wcMask (p : Params) : Word := fieldMask p.layout.wc 1

/-- `CLOCK_MASK` (R31). -/
def clockMask (p : Params) : Word := sprMask ||| sppr0Mask p ||| sppr21Mask p

/-- `MODE_MASK` (R31). -/
def modeMask (p : Params) : Word := cpolMask p ||| cphaMask p ||| txLsbfMask p ||| rxLsbfMask p

/-- The value written back by `RMW(OFF, clear, set)` when the read gave `t` (spec/00_scope.md R12). -/
def rmwValue (t clear set : Word) : Word := (t &&& ~~~clear) ||| set

/-- Address arithmetic is modulo `2^ADDR_W` (spec/43_transfer.md R179). -/
def addrAdd (p : Params) (a k : Nat) : Nat := (a + k) % 2 ^ p.addrW

/-- `HOST_MEM`: is this byte address admitted (spec/20_memory.md R61)? -/
def admits (p : Params) (a : Nat) : Bool :=
  p.hostMem.any fun r => decide (r.base ≤ a) && decide (a < r.base + r.size)

/-- `WINDOW(cs)` (spec/00_scope.md R9): absent where the table has no entry. -/
def windowOf (p : Params) (cs : Nat) : Option Window := p.windows.find? fun w => w.cs == cs

/-- `DIRECT_BYTES(bitlen)` (R9, spec/43_transfer.md R191): `floor(bitlen / 8)` but where the parameter says otherwise. -/
def directBytes (p : Params) (bitlen : Nat) : Nat := (p.directTable.lookup bitlen).getD (bitlen / 8)

end Sys2Proof.Machine
end

