-- ==== Sys2Proof/Machine/State.lean ====
section
/-! DEFINITION. Everything the spec gives the machine, as plain data: spec/10_state.md R20 (internal state), R26 (command interface),
R28 (register block); spec/20_memory.md R61 (host memory); spec/43_transfer.md R171 (FSM and the working values of an XFER);
spec/70_reset_and_hazards.md R278 (the event trace); the launch parameters (R272); and the inputs of the host and of the peripheral. -/

namespace Sys2Proof.Machine

/-- The status codes (spec/60_exceptions.md R241); their numbers are in Sys2Proof/Machine/Flags.lean. -/
inductive Status where
  | ok
  | configError
  | invalidCs
  | busy
  | wordTimeout
  | notClaimed
  | selectHeld
  | notInitialised
  | reservedCommand
deriving DecidableEq, Repr

/-- The seven peripheral registers (R28). -/
inductive Reg where
  | ctrl
  | cfg
  | dout
  | din
  | cause
  | mask
  | dwcfg
deriving DecidableEq, Repr

/-- A divider pair (spec/40_clock.md R120). -/
structure ClockPair where
  spr  : BitVec 4
  sppr : BitVec 3
deriving DecidableEq, Repr

/-- The three mode flags (spec/41_mode.md R140). -/
structure ModeFlags where
  cpha : Bool
  cpol : Bool
  lsb  : Bool
deriving DecidableEq, Repr

/-- The result of `PATH` (spec/42_chipselect.md R156). -/
inductive Path where
  | polled
  | direct (base size : Nat)
deriving DecidableEq, Repr

/-- A diagnostic event (spec/60_exceptions.md R242, R256). -/
inductive DiagEvent where
  | wordTimeout (rem : Int) (width : Nat) (cs : BitVec 3)
deriving DecidableEq, Repr

/-- What is signalled to the board hook (spec/44_bus.md R226). -/
inductive HookEvent where
  | onClaim
  | onRelease
deriving DecidableEq, Repr

/-- One access of the core (spec/00_scope.md R12; spec/20_memory.md R67, R70). A register access carries its register and its
address `REG_BASE + OFF`; a window access its address, its size in bytes and its value. -/
inductive Event where
  | regRead (r : Reg) (addr : Nat) (v : Word)
  | regWrite (r : Reg) (addr : Nat) (v : Word)
  | memRead (addr : Nat) (v : Byte)
  | memWrite (addr : Nat) (v : Byte)
  | winWrite (addr size : Nat) (v : Word)
  | hook (e : HookEvent)
deriving DecidableEq, Repr

/-- The states of a running XFER (spec/43_transfer.md R171, the rows after CHECK; D_RD's four steps are four states). -/
inductive XferState where
  | selR
  | selW
  | body
  | pTest
  | pLenR
  | pLenW
  | pClrR
  | pClrW
  | pOutB0
  | pOutB1
  | pOutW
  | pPoll
  | pInR
  | pInB0
  | pInB1
  | pAdv
  | pTmo
  | dTest
  | dRd0
  | dRd1
  | dRd2
  | dRd3
  | dWW
  | dBrd
  | dBw
  | tail
  | dselR
  | dselW
  | done
deriving DecidableEq, Repr

/-- FSM (R20, R171): waiting for a CMD write, a command to check and run, or inside an XFER. -/
inductive Fsm where
  | idle
  | check
  | xfer (st : XferState)
deriving DecidableEq, Repr

/-- The width of a word: one or two bytes (R177). -/
inductive Width where
  | one
  | two
deriving DecidableEq, Repr

/-- The working values of an XFER (R172, R175 to R183, R190). -/
structure Xfer where
  endSel : Bool
  path   : Path
  op     : Option Nat
  ip     : Option Nat
  rem    : Int
  stop   : Bool
  words  : Nat
  tmo    : Nat
  status : Status
  w      : Width
  t      : Word
  word   : Half
  n      : Nat
  d      : Word
  left   : Nat
  acc    : Word
deriving DecidableEq, Repr

/-- The working values outside an XFER. DESIGN CHOICE (log 3): the spec gives them no value there and no command reads them. -/
def Xfer.idle : Xfer where
  endSel := false
  path   := .polled
  op     := none
  ip     := none
  rem    := 0
  stop   := false
  words  := 0
  tmo    := 0
  status := .ok
  w      := .one
  t      := 0
  word   := 0
  n      := 0
  d      := 0
  left   := 0
  acc    := 0

/-- A move of the host between commands (spec/10_state.md R26; spec/70_reset_and_hazards.md R277). -/
inductive HostMove where
  /-- Write operand register `A[k]`. -/
  | writeA (k : Fin 3) (v : DWord)
  /-- Write CMD, which starts a command. -/
  | writeCmd (w : Word)
  /-- Write one byte of host memory. -/
  | writeMem (a : Nat) (v : Byte)
  /-- Write a peripheral register, admitted only while the bus is free. -/
  | writeReg (r : Reg) (v : Word)
deriving DecidableEq, Repr

/-- The whole machine. -/
structure State where
  /-- The launch parameters (R272). No step writes them. -/
  params       : Params
  /-- INIT (R20). -/
  init         : Bool
  /-- CLAIMED (R20, R21). -/
  claimed      : Bool
  /-- CLAIMED_CS (R20, R21). -/
  claimedCs    : Option (BitVec 3)
  /-- SEL (R20, R23). -/
  sel          : Bool
  /-- CUR_CLOCK (R20, R22). -/
  curClock     : Option ClockPair
  /-- CUR_MODE (R20, R22). -/
  curMode      : Option ModeFlags
  /-- TIMEOUT_TOTAL (R20, R24). -/
  timeoutTotal : Word
  /-- VIOLATION (R20, R25). -/
  violation    : Bool
  /-- DIAG, oldest first (R20, R256). -/
  diag         : List DiagEvent
  /-- FSM (R20, R171). -/
  fsm          : Fsm
  /-- A[0] (R26). -/
  a0           : DWord
  /-- A[1] (R26). -/
  a1           : DWord
  /-- A[2] (R26). -/
  a2           : DWord
  /-- CMD (R26). -/
  cmd          : Word
  /-- R[0], the status (R26, R241). -/
  r0           : DWord
  /-- R[1] (R26). -/
  r1           : DWord
  /-- R[2] (R26). -/
  r2           : DWord
  /-- R[3] (R26). -/
  r3           : DWord
  /-- CTRL (R29). -/
  ctrl         : Word
  /-- CFG (R30). -/
  cfg          : Word
  /-- DOUT (R35). -/
  dout         : Word
  /-- DIN: the value the last read returned; a read returns a draw (R36, R42). -/
  din          : Word
  /-- CAUSE: the value last read or written; a read returns a draw (R33, R39, R41). -/
  cause        : Word
  /-- MASK (R34). -/
  mask         : Word
  /-- DWCFG (R37). -/
  dwcfg        : Word
  /-- Host memory in canonical form: rising addresses, no byte equal to what an unlisted address reads as. -/
  mem          : List Host.Cell
  /-- The accesses made so far, oldest first (R70, R278). -/
  trace        : List Event
  /-- The working values of a running XFER. -/
  xfer         : Xfer
  /-- The values of the first CAUSE reads after reset, where they are known (the oracle of R41). -/
  causeScript  : List Word
  /-- The values of the first DIN reads after reset, where they are known (R42). -/
  dinScript    : List Word
  /-- How many CAUSE reads have been made: which draw is next. -/
  causeReads   : Nat
  /-- How many DIN reads have been made: which draw is next. -/
  dinReads     : Nat
  /-- The moves the host has still to make, in order (R277). -/
  host         : List HostMove
deriving DecidableEq, Repr

/-- Why the machine has no step. -/
inductive Fault where
  /-- A host-memory byte access outside `HOST_MEM` (R61): the core is stuck. Raised by the byte accesses of an XFER. Safe: the
  spec gives the access no step. -/
  | stuckHostMem (addr : Nat)
  /-- The host's next move breaks a duty of R277 (a register access while the bus is claimed) or names no `ADDR_W`-bit
  address. Raised by `hostStep`. Safe: the spec admits no such move. -/
  | hostMoveNotAdmitted
deriving DecidableEq, Repr

/-- Why the model gives no meaning. -/
inductive Refusal where
  /-- A command without a meaning. Raised by `exec` alone. Safe. -/
  | notModelled (mnemonic : String)
  /-- The configuration breaks R10 or R31. Raised by `step`. Safe: R10 asks for it. -/
  | illFormedParams
deriving DecidableEq, Repr

/-- The machine right after reset under launch parameters `p` (R46, R47, R270). CTRL and CFG hold the free launch parameters
`CTRL_INIT` and `CFG_INIT`. DESIGN CHOICE: CMD, DOUT, DIN, CAUSE, MASK and DWCFG, which the spec leaves unknown, hold 0 (log 2);
host memory lists nothing (log 4). -/
def State.launch (p : Params) : State where
  params       := p
  init         := false
  claimed      := false
  claimedCs    := none
  sel          := false
  curClock     := none
  curMode      := none
  timeoutTotal := 0
  violation    := false
  diag         := []
  fsm          := .idle
  a0           := 0
  a1           := 0
  a2           := 0
  cmd          := 0
  r0           := 0
  r1           := 0
  r2           := 0
  r3           := 0
  ctrl         := p.ctrlInit
  cfg          := p.cfgInit
  dout         := 0
  din          := 0
  cause        := 0
  mask         := 0
  dwcfg        := 0
  mem          := []
  trace        := []
  xfer         := Xfer.idle
  causeScript  := []
  dinScript    := []
  causeReads   := 0
  dinReads     := 0
  host         := []

/-- Reset under the common launch (DESIGN CHOICE, log 1: the OPEN parameters have the values of spec/95_test_vectors.md). -/
def State.reset : State := State.launch Params.common

end Sys2Proof.Machine
end

