-- ==== Sys2Proof/Machine/Flags.lean ====
section
/-! DEFINITION. The core has no condition codes (spec/10_state.md R39). What it computes from a status or a flag: the status numbers
(spec/60_exceptions.md R241), the contract violations (R243) and the test of the one status flag, CAUSE.WC (R39). -/

namespace Sys2Proof.Machine

/-- The number written to R[0] (R241). -/
def statusCode : Status → DWord
  | .ok => 0
  | .configError => 1
  | .invalidCs => 2
  | .busy => 3
  | .wordTimeout => 4
  | .notClaimed => 5
  | .selectHeld => 6
  | .notInitialised => 7
  | .reservedCommand => 8

/-- The contract-violation statuses, which set VIOLATION (R243). -/
def isViolation : Status → Bool
  | .ok => false
  | .configError => false
  | .invalidCs => false
  | .busy => false
  | .wordTimeout => false
  | .notClaimed => true
  | .selectHeld => true
  | .notInitialised => true
  | .reservedCommand => true

/-- Bit WC of a value read from CAUSE (spec/43_transfer.md R181). -/
def wcSet (p : Params) (c : Word) : Bool := c.getLsbD p.layout.wc

end Sys2Proof.Machine
end

