-- ==== Sys2Proof/Machine/Memory.lean ====
section
/-! DEFINITION. Host memory as a canonical list of bytes (spec/20_memory.md R60, R61). An unlisted address reads as 0x00: the spec gives host
memory no contents before the host writes it (DESIGN CHOICE, log 4). -/

namespace Sys2Proof.Machine

/-- What an unlisted address reads as. -/
def unlistedByte : Byte := 0

/-- The byte at an address. -/
def memGet : List Host.Cell → Nat → Byte
  | [], _ => unlistedByte
  | c :: m, a => if c.1 = a then c.2 else memGet m a

/-- The memory after a byte is written: the entry is put in its place, or taken out when it would say what an unlisted address
reads as. -/
def memPut : List Host.Cell → Nat → Byte → List Host.Cell
  | [], a, v => if v = unlistedByte then [] else [(a, v)]
  | c :: m, a, v =>
    if c.1 < a then c :: memPut m a v
    else if c.1 = a then (if v = unlistedByte then m else (a, v) :: m)
    else (if v = unlistedByte then c :: m else (a, v) :: c :: m)

/-- Every address of the list is above `lo` and rising, and no byte is the unlisted one. -/
def memWfFrom : Nat → List Host.Cell → Bool
  | _, [] => true
  | lo, c :: m => decide (lo ≤ c.1) && decide (c.2 ≠ unlistedByte) && memWfFrom (c.1 + 1) m

/-- The canonical form. -/
def memWf (m : List Host.Cell) : Bool := memWfFrom 0 m

end Sys2Proof.Machine
end

