-- ==== Sys2Proof/Machine/Operands.lean ====
section
/-! DEFINITION. The operand forms of a command (spec/30_encoding.md R94): a 32-bit number in an operand register, and a buffer address. -/

namespace Sys2Proof.Machine

/-- A frequency or a bit length: `A[k][63:32]` must be 0 (R94). -/
def numberOk (a : DWord) : Bool := a.extractLsb' 32 32 == 0

/-- Its value, `A[k][31:0]`, as an unbounded natural number (spec/00_scope.md R11). -/
def numberVal (a : DWord) : Nat := (a.setWidth 32).toNat

/-- A buffer address: below `2^ADDR_W`, and ignored when its presence bit is 0 (R94). -/
def addressOk (p : Params) (present : Bool) (a : DWord) : Bool := !present || decide (a.toNat < 2 ^ p.addrW)

/-- The buffer a presence bit and an operand register name (spec/43_transfer.md R170). -/
def bufferOf (present : Bool) (a : DWord) : Option Nat := bif present then some a.toNat else none

/-- The operand constraints of XFER (R94, R170). -/
def xferOperandsOk (hasOut hasIn : Bool) (s : State) : Bool :=
  numberOk s.a0 && addressOk s.params hasOut s.a1 && addressOk s.params hasIn s.a2

/-- CLAIMED_CS as an index. In a state no run reaches, CLAIMED without an index, it is 0 (DESIGN CHOICE, log 11). -/
def claimedIndex (s : State) : BitVec 3 := s.claimedCs.getD 0

/-- `PATH(cs, out, in)` (spec/42_chipselect.md R156). -/
def pathOf (p : Params) (cs : BitVec 3) (hasOut hasIn : Bool) : Path :=
  match windowOf p cs.toNat with
  | none => .polled
  | some w => bif hasOut && !hasIn then .direct w.base w.size else .polled

end Sys2Proof.Machine
end

