-- ==== Sys2Proof/Machine/Ops.lean ====
section
/-! DEFINITION. The shared operations: the access primitives of spec/00_scope.md R12, each one access appended to the trace
(spec/20_memory.md R70), and the start and the end of a command (spec/30_encoding.md R95; R12 `finish`, `raise`). The core has no trap
(spec/60_exceptions.md R240): ending a command with a status is its whole exception mechanism, so `endCommand` stands where another
machine takes an exception, and there is nothing to return from. -/

namespace Sys2Proof.Machine

/-- Append one access to the trace. -/
def emit (e : Event) (s : State) : State := { s with trace := s.trace ++ [e] }

/-- The offset of a register (spec/10_state.md R28). -/
def regOffset (o : Offsets) : Reg → Nat
  | .ctrl => o.ctrl
  | .cfg => o.cfg
  | .dout => o.dout
  | .din => o.din
  | .cause => o.cause
  | .mask => o.mask
  | .dwcfg => o.dwcfg

/-- `REG_BASE + OFF`, an `ADDR_W`-bit address (spec/20_memory.md R60). -/
def regAddr (p : Params) (r : Reg) : Nat := addrAdd p p.regBase (regOffset p.offsets r)

/-- The value the k-th CAUSE read returns (R41). -/
def causeDraw (s : State) (k : Nat) : Word := (s.causeScript[k]?).getD (Config.freeCause k)

/-- The value the k-th DIN read returns (R42). -/
def dinDraw (s : State) (k : Nat) : Word := (s.dinScript[k]?).getD (Config.freeDin k)

/-- The value a read of this register returns now (R38): CTRL and CFG read back, CAUSE and DIN are draws. -/
def regPeek (r : Reg) (s : State) : Word :=
  match r with
  | .ctrl => s.ctrl
  | .cfg => s.cfg
  | .dout => s.dout
  | .din => dinDraw s s.dinReads
  | .cause => causeDraw s s.causeReads
  | .mask => s.mask
  | .dwcfg => s.dwcfg

/-- `RegRead(OFF)`: one 32-bit read (R12). Its value is `regPeek r s`. -/
def regRead (r : Reg) (s : State) : State :=
  emit (.regRead r (regAddr s.params r) (regPeek r s)) <|
    match r with
    | .ctrl => s
    | .cfg => s
    | .dout => s
    | .din => { s with din := dinDraw s s.dinReads, dinReads := s.dinReads + 1 }
    | .cause => { s with cause := causeDraw s s.causeReads, causeReads := s.causeReads + 1 }
    | .mask => s
    | .dwcfg => s

/-- Put a value in a peripheral register. -/
def regSet (r : Reg) (v : Word) (s : State) : State :=
  match r with
  | .ctrl => { s with ctrl := v }
  | .cfg => { s with cfg := v }
  | .dout => { s with dout := v }
  | .din => { s with din := v }
  | .cause => { s with cause := v }
  | .mask => { s with mask := v }
  | .dwcfg => { s with dwcfg := v }

/-- `RegWrite(OFF, v)`: one 32-bit write (R12). -/
def regWrite (r : Reg) (v : Word) (s : State) : State := emit (.regWrite r (regAddr s.params r) v) (regSet r v s)

/-- `RMW(OFF, clear, set)`: a read, then a write (R12, R67). -/
def rmw (r : Reg) (clear set : Word) (s : State) : State :=
  regWrite r (rmwValue (regPeek r s) clear set) (regRead r s)

/-- `MemRead(addr, 1)` (R12): the rest of the step gets the byte; outside `HOST_MEM` there is no step (R61). -/
def memLoad (a : Nat) (s : State) (k : Byte → State → Host.Outcome State Fault Refusal) :
    Host.Outcome State Fault Refusal :=
  if admits s.params a then k (memGet s.mem a) (emit (.memRead a (memGet s.mem a)) s) else .fault (.stuckHostMem a)

/-- `MemWrite(addr, 1, v)` (R12); outside `HOST_MEM` there is no step (R61). -/
def memStore (a : Nat) (v : Byte) (s : State) (k : State → Host.Outcome State Fault Refusal) :
    Host.Outcome State Fault Refusal :=
  if admits s.params a then k (emit (.memWrite a v) { s with mem := memPut s.mem a v }) else .fault (.stuckHostMem a)

/-- `WinWrite(addr, n, v)` (R12): one event and never memory contents (R69). -/
def winWrite (addr size : Nat) (v : Word) (s : State) : State := emit (.winWrite addr size v) s

/-- `Hook(e)` (R12, spec/44_bus.md R226). -/
def hook (e : HookEvent) (s : State) : State := emit (.hook e) s

/-- The ordered list of window writes (R69): address, size and value. -/
def windowWrites (s : State) : List (Nat × Nat × Word) :=
  s.trace.filterMap fun e => match e with
    | .winWrite a n v => some (a, n, v)
    | _ => none

/-- A word timeout is recorded: DIAG gains one event and TIMEOUT_TOTAL counts (spec/43_transfer.md R183; spec/10_state.md R24). -/
def logTimeout (rem : Int) (width : Nat) (s : State) : State :=
  { s with
    diag := s.diag ++ [.wordTimeout rem width (claimedIndex s)]
    timeoutTotal := s.timeoutTotal + 1 }

/-- The start of every command: R[1] to R[3] are set to 0 (R95, R96). -/
def beginCommand (s : State) : State := { s with r1 := 0, r2 := 0, r3 := 0 }

/-- The end of every command: `finish(code)` and `raise Status(code)` (R12). R[0] receives the status, a contract-violation code
sets the sticky VIOLATION (R25, R243), and FSM is IDLE again. -/
def endCommand (st : Status) (s : State) : State :=
  { s with
    r0 := statusCode st
    violation := s.violation || isViolation st
    fsm := .idle
    xfer := Xfer.idle }

/-- `zext_64` of a number the spec gives no width (spec/00_scope.md R11): a count of spec/43_transfer.md R172, or a window's base and
size in spec/42_chipselect.md R157. DESIGN CHOICE (log 9): from 2^64 on the spec states no value, and the result is a free value. -/
def zext64Nat (n : Nat) : DWord := if n < 2 ^ 64 then BitVec.ofNat 64 n else Config.freeWide n

/-- Write the three result registers (R95). -/
def setResults (v1 v2 v3 : DWord) (s : State) : State := { s with r1 := v1, r2 := v2, r3 := v3 }

/-- A command word that spells no command, or a command with a bad operand, ends with RESERVED_COMMAND (R96). -/
def reservedCommand (s : State) : State := endCommand .reservedCommand (beginCommand s)

end Sys2Proof.Machine
end

