-- ==== Sys2Proof/Machine/Bus.lean ====
section
/-! DEFINITION. SETUP, CLAIM and RELEASE (spec/44_bus.md). -/

namespace Sys2Proof.Machine

/-- SETUP (R221). -/
def execSetup (s : State) : Host.Outcome State Fault Refusal :=
  let s := beginCommand s
  if s.claimed then .next (endCommand .busy s)
  else
    let s := regWrite .ctrl (readyMask s.params) s
    let s := { s with sel := false }
    let s := regWrite .mask s.params.maskSetup s
    let s := regWrite .dwcfg s.params.dwcfgSetup s
    let s := { s with init := true }
    .next (endCommand .ok s)

/-- CLAIM (R224). -/
def execClaim (cs : BitVec 3) (s : State) : Host.Outcome State Fault Refusal :=
  let s := beginCommand s
  if !s.init then .next (endCommand .notInitialised s)
  else if !s.params.validCs.contains cs.toNat then .next (endCommand .invalidCs s)
  else if s.claimed then .next (endCommand .busy s)
  else
    let s := hook .onClaim s
    let s := { s with claimed := true, claimedCs := some cs }
    .next (endCommand .ok (setResults (cs.setWidth 64) 0 0 s))

/-- RELEASE (R227). -/
def execRelease (s : State) : Host.Outcome State Fault Refusal :=
  let s := beginCommand s
  if !s.init then .next (endCommand .notInitialised s)
  else if !s.claimed then .next (endCommand .notClaimed s)
  else if s.sel then .next (endCommand .selectHeld s)
  else
    let s := hook .onRelease s
    let s := { s with claimed := false, claimedCs := none }
    .next (endCommand .ok s)

end Sys2Proof.Machine
end

