-- ==== Sys2Proof/Machine/Clock.lean ====
section
/-! DEFINITION. The clock divider configurator: CLK_COMPUTE and SET_SPEED (spec/40_clock.md). -/

namespace Sys2Proof.Machine

/-- The 1-based position of the highest set bit, 0 for 0 (R121). -/
def fls (x : Nat) : Nat := if x = 0 then 0 else Nat.log2 x + 1

/-- `ceil(a / b)` for `b >= 1`: the least `q` with `q * b >= a` (R129). -/
def ceilDiv (a b : Nat) : Nat := (a + b - 1) / b

/-- The divider pair for a divider `d` (R122, from "if d < 16" on). -/
def dividerPair (d : Nat) : Option ClockPair :=
  if d < 16 then some ⟨BitVec.ofNat 4 d, 0⟩
  else
    let s := fls d - 4
    let d' := ceilDiv d (2 ^ s) * 2 ^ s
    let s' := fls d' - 4
    if 7 < s' then none else some ⟨BitVec.ofNat 4 (d' >>> s'), BitVec.ofNat 3 s'⟩

/-- `CLOCK_DIV(core_hz, target_hz)` on unbounded naturals (R122); `none` is `error`. -/
def clockDiv (coreHz targetHz : Nat) : Option ClockPair :=
  if targetHz = 0 then none else dividerPair (ceilDiv coreHz targetHz)

/-- `CLK_IMG(spr, sppr)` (spec/10_state.md R32). -/
def clkImg (p : Params) (c : ClockPair) : Word :=
  fieldImg 0 c.spr.toNat ||| fieldImg p.layout.sppr0 (c.sppr.toNat % 2) ||| fieldImg p.layout.sppr21 (c.sppr.toNat / 2)

/-- R[1], R[2] and R[3] of a computed divider (R126, R127). -/
def clockResults (c : ClockPair) (s : State) : State :=
  setResults (c.spr.setWidth 64) (c.sppr.setWidth 64) (zext64 (clkImg s.params c)) s

/-- CLK_COMPUTE (R126). -/
def execClkCompute (s : State) : Host.Outcome State Fault Refusal :=
  let s := beginCommand s
  if !(numberOk s.a0 && numberOk s.a1) then .next (endCommand .reservedCommand s)
  else match clockDiv (numberVal s.a0) (numberVal s.a1) with
    | none => .next (endCommand .configError s)
    | some c => .next (endCommand .ok (clockResults c s))

/-- SET_SPEED (R127). -/
def execSetSpeed (s : State) : Host.Outcome State Fault Refusal :=
  let s := beginCommand s
  if !numberOk s.a0 then .next (endCommand .reservedCommand s)
  else if !s.init then .next (endCommand .notInitialised s)
  else if !s.claimed then .next (endCommand .notClaimed s)
  else if s.sel then .next (endCommand .selectHeld s)
  else match clockDiv s.params.coreHz.toNat (numberVal s.a0) with
    | none => .next (endCommand .configError s)
    | some c =>
      let s := rmw .cfg (clockMask s.params) (clkImg s.params c) s
      let s := { s with curClock := some c }
      .next (endCommand .ok (clockResults c s))

end Sys2Proof.Machine
end

