-- ==== Sys2Proof/Machine/Mode.lean ====
section
/-! DEFINITION. The SPI mode encoder: MODE_COMPUTE and SET_MODE (spec/41_mode.md). -/

namespace Sys2Proof.Machine

/-- `MODE_ENC(cpha, cpol, lsb)` (R141). -/
def modeEnc (p : Params) (m : ModeFlags) : Word :=
  (bif m.cpha then cphaMask p else 0) ||| (bif m.cpol then cpolMask p else 0) |||
    (bif m.lsb then txLsbfMask p ||| rxLsbfMask p else 0)

/-- MODE_COMPUTE (R144). -/
def execModeCompute (cpha cpol lsb : Bool) (s : State) : Host.Outcome State Fault Refusal :=
  let s := beginCommand s
  .next (endCommand .ok (setResults (zext64 (modeEnc s.params ⟨cpha, cpol, lsb⟩)) 0 0 s))

/-- SET_MODE (R145). -/
def execSetMode (cpha cpol lsb : Bool) (s : State) : Host.Outcome State Fault Refusal :=
  let s := beginCommand s
  if !s.init then .next (endCommand .notInitialised s)
  else if !s.claimed then .next (endCommand .notClaimed s)
  else if s.sel then .next (endCommand .selectHeld s)
  else
    let m : ModeFlags := ⟨cpha, cpol, lsb⟩
    let s := rmw .cfg (modeMask s.params) (modeEnc s.params m) s
    let s := { s with curMode := some m }
    .next (endCommand .ok (setResults (zext64 (modeEnc s.params m)) 0 0 s))

end Sys2Proof.Machine
end

