-- ==== Sys2Proof/Machine/Select.lean ====
section
/-! DEFINITION. The direct-window selector: RESOLVE (spec/42_chipselect.md R156, R157). The SELECT and DESELECT actions (R151, R152) are states
of a running XFER and stand in Sys2Proof/Machine/Xfer.lean. -/

namespace Sys2Proof.Machine

/-- R[1], R[2] and R[3] of a resolved path (R157). A window of 2^64 bytes, which R10 admits at ADDR_W = 64, has a size that does not
fit R[3]: the spec states no value there, and R[3] is a free value (DESIGN CHOICE, log 9). -/
def pathResults (path : Path) (s : State) : State :=
  match path with
  | .polled => setResults 0 0 0 s
  | .direct base size => setResults 1 (zext64Nat base) (zext64Nat size) s

/-- RESOLVE (R157). -/
def execResolve (cs : BitVec 3) (hasOut hasIn : Bool) (s : State) : Host.Outcome State Fault Refusal :=
  let s := beginCommand s
  if !s.params.validCs.contains cs.toNat then .next (endCommand .invalidCs s)
  else .next (endCommand .ok (pathResults (pathOf s.params cs hasOut hasIn) s))

end Sys2Proof.Machine
end

