-- ==== Sys2Proof/Machine/Xfer.lean ====
section
/-! DEFINITION. The transfer engine: XFER (spec/43_transfer.md). `execXfer` is the CHECK state: the decode of the operands, the state checks and the
path (R172, R173). Each other state of R171 is one step of `xferStep` and makes at most one access. A word that never completes
under CONTINUE is therefore a run that never ends (R187). -/

namespace Sys2Proof.Machine

/-- Go to a state of the transfer. -/
def goTo (st : XferState) (s : State) : State := { s with fsm := .xfer st }

/-- Change the working values and go to a state of the transfer. -/
def goWith (st : XferState) (x : Xfer) (s : State) : State := { s with fsm := .xfer st, xfer := x }

/-- The number of bytes of a word. -/
def widthBytes : Width → Nat
  | .one => 1
  | .two => 2

/-- `w <- (rem <= 8) ? 1 : 2` (R177). -/
def widthFor (rem : Int) : Width := if rem ≤ 8 then .one else .two

/-- The working values at the start of an XFER (R170, R172, R175, R190). -/
def startXfer (endSel hasOut hasIn : Bool) (s : State) : Xfer :=
  { Xfer.idle with
    endSel := endSel
    path := pathOf s.params (claimedIndex s) hasOut hasIn
    op := bufferOf hasOut s.a1
    ip := bufferOf hasIn s.a2
    rem := numberVal s.a0
    left := directBytes s.params (numberVal s.a0) }

/-- XFER, state CHECK (R171, R172, R173). -/
def execXfer (beginSel endSel hasOut hasIn : Bool) (s : State) : Host.Outcome State Fault Refusal :=
  let s := beginCommand s
  if !xferOperandsOk hasOut hasIn s then .next (endCommand .reservedCommand s)
  else if !s.init then .next (endCommand .notInitialised s)
  else if !s.claimed then .next (endCommand .notClaimed s)
  else .next (goWith (bif beginSel then .selR else .body) (startXfer endSel hasOut hasIn s) s)

/-- SEL_R: the read of SELECT (spec/42_chipselect.md R151). -/
def stepSelR (s : State) : State := goWith .selW { s.xfer with t := regPeek .ctrl s } (regRead .ctrl s)

/-- The value SELECT writes to CTRL when it read `t` (R151). -/
def selectValue (p : Params) (cs : BitVec 3) (t : Word) : Word :=
  rmwValue t (csEnMask p ||| csMask p) (fieldImg p.layout.cs cs.toNat ||| csEnMask p)

/-- SEL_W: the write of SELECT (R151). -/
def stepSelW (s : State) : State :=
  goTo .body { regWrite .ctrl (selectValue s.params (claimedIndex s) s.xfer.t) s with sel := true }

/-- BODY: the strategy (R171). -/
def stepBody (s : State) : State :=
  match s.xfer.path with
  | .polled => goTo .pTest s
  | .direct _ _ => goTo .dTest s

/-- P_TEST: another word while `rem > 4` and not `stop` (R175). -/
def stepPTest (s : State) : State :=
  if 4 < s.xfer.rem ∧ s.xfer.stop = false then goTo .pLenR s else goTo .tail s

/-- P_LEN_R: the width of the word, and the read of CFG (R177). The output word starts at 0 (R179). -/
def stepPLenR (s : State) : State :=
  goWith .pLenW { s.xfer with w := widthFor s.xfer.rem, t := regPeek .cfg s, word := 0 } (regRead .cfg s)

/-- The value P_LEN_W writes to CFG when P_LEN_R read `t` (R177). -/
def lenValue (p : Params) (w : Width) (t : Word) : Word :=
  rmwValue t (xferLenMask p) (match w with | .one => 0 | .two => xferLenMask p)

/-- P_LEN_W: the write of CFG (R177). -/
def stepPLenW (s : State) : State := goTo .pClrR (regWrite .cfg (lenValue s.params s.xfer.w s.xfer.t) s)

/-- P_CLR_R: the read of CAUSE before the clear (R178). -/
def stepPClrR (s : State) : State := goWith .pClrW { s.xfer with t := regPeek .cause s } (regRead .cause s)

/-- P_CLR_W: CAUSE written back with WC = 0 (R178). -/
def stepPClrW (s : State) : State :=
  goTo (if s.xfer.op.isSome then .pOutB0 else .pOutW) (regWrite .cause (rmwValue s.xfer.t (wcMask s.params) 0) s)

/-- P_OUT_B0: the first (or only) byte of the output word (R179). Without an output buffer, which no run reaches here, there is
nothing to read. -/
def stepPOutB0 (s : State) : Host.Outcome State Fault Refusal :=
  match s.xfer.op with
  | none => .next (goTo .pOutW s)
  | some a =>
    memLoad a s fun b s =>
      .next (goWith (match s.xfer.w with | .one => .pOutW | .two => .pOutB1) { s.xfer with word := b.setWidth 16 } s)

/-- P_OUT_B1: the second byte, `word = hi:lo` (R179, spec/20_memory.md R63). -/
def stepPOutB1 (s : State) : Host.Outcome State Fault Refusal :=
  match s.xfer.op with
  | none => .next (goTo .pOutW s)
  | some a =>
    memLoad (addrAdd s.params a 1) s fun b s =>
      .next (goWith .pOutW { s.xfer with word := b ++ s.xfer.word.setWidth 8 } s)

/-- P_OUT_W: the write of DOUT starts the word; polling starts with `n = 0` (R179, R180, R181). -/
def stepPOutW (s : State) : State :=
  goWith .pPoll { s.xfer with n := 0 } (regWrite .dout (s.xfer.word.setWidth 32) s)

/-- P_POLL: one read of CAUSE (R181). -/
def stepPPoll (s : State) : State :=
  let x := { s.xfer with n := s.xfer.n + 1 }
  goWith
    (if wcSet s.params (regPeek .cause s) then (if x.ip.isSome then .pInR else .pAdv)
     else if x.n < s.params.pollBound then .pPoll else .pTmo)
    x (regRead .cause s)

/-- P_IN_R: the read of DIN (R182). -/
def stepPInR (s : State) : State := goWith .pInB0 { s.xfer with d := regPeek .din s } (regRead .din s)

/-- P_IN_B0: `d[7:0]` to the input buffer (R182). Without an input buffer, which no run reaches here, nothing is stored. -/
def stepPInB0 (s : State) : Host.Outcome State Fault Refusal :=
  match s.xfer.ip with
  | none => .next (goTo .pAdv s)
  | some b =>
    memStore b (s.xfer.d.extractLsb' 0 8) s fun s =>
      .next (goTo (match s.xfer.w with | .one => .pAdv | .two => .pInB1) s)

/-- P_IN_B1: `d[15:8]` to the next address (R182). -/
def stepPInB1 (s : State) : Host.Outcome State Fault Refusal :=
  match s.xfer.ip with
  | none => .next (goTo .pAdv s)
  | some b => memStore (addrAdd s.params b 1) (s.xfer.d.extractLsb' 8 8) s fun s => .next (goTo .pAdv s)

/-- The working values after a completed word (R182). -/
def advanced (p : Params) (x : Xfer) : Xfer :=
  { x with
    op := x.op.map fun a => addrAdd p a (widthBytes x.w)
    ip := x.ip.map fun b => addrAdd p b (widthBytes x.w)
    rem := x.rem - 8 * (widthBytes x.w : Int)
    words := x.words + 1 }

/-- P_ADV: the cursors and the remaining count (R182). -/
def stepPAdv (s : State) : State := goWith .pTest (advanced s.params s.xfer) s

/-- The working values after a word timeout (R183). Only ABORT changes the status and stops the loop (R184). -/
def timedOut (p : Params) (x : Xfer) : Xfer :=
  match p.timeoutPolicy with
  | .continues => { x with tmo := x.tmo + 1 }
  | .abort => { x with tmo := x.tmo + 1, status := .wordTimeout, stop := true }

/-- P_TMO: the timeout is recorded; no cursor and no count of bits moves (R183). -/
def stepPTmo (s : State) : State :=
  goWith .pTest (timedOut s.params s.xfer) (logTimeout s.xfer.rem (widthBytes s.xfer.w) s)

/-- D_TEST: full words, then tail bytes (R190). -/
def stepDTest (s : State) : State :=
  if 4 ≤ s.xfer.left then goTo .dRd0 s else if 0 < s.xfer.left then goTo .dBrd s else goTo .tail s

/-- D_RD, step `k`: byte `k` of a full word into bits `8k+7:8k` (R190, spec/20_memory.md R63). -/
def stepDRd (k : Nat) (nxt : XferState) (s : State) : Host.Outcome State Fault Refusal :=
  memLoad (addrAdd s.params (s.xfer.op.getD 0) k) s fun b s =>
    .next (goWith nxt { s.xfer with acc := (if k = 0 then 0 else s.xfer.acc) ||| (b.setWidth 32 <<< (8 * k)) } s)

/-- The window's address: the base, for every window write (R69, R190). -/
def windowBase (x : Xfer) : Nat :=
  match x.path with
  | .polled => 0
  | .direct base _ => base

/-- The working values after `k` bytes have been streamed in one window write (R190). -/
def streamed (p : Params) (k : Nat) (x : Xfer) : Xfer :=
  { x with op := x.op.map fun a => addrAdd p a k, left := x.left - k, words := x.words + 1 }

/-- D_WW: the 4-byte window write (R190). -/
def stepDWW (s : State) : State :=
  goWith .dTest (streamed s.params 4 s.xfer) (winWrite (windowBase s.xfer) 4 s.xfer.acc s)

/-- D_BRD: the read of one tail byte (R190). -/
def stepDBrd (s : State) : Host.Outcome State Fault Refusal :=
  memLoad (s.xfer.op.getD 0) s fun b s => .next (goWith .dBw { s.xfer with acc := b.setWidth 32 } s)

/-- D_BW: the 1-byte window write (R190). -/
def stepDBw (s : State) : State :=
  goWith .dTest (streamed s.params 1 s.xfer) (winWrite (windowBase s.xfer) 1 s.xfer.acc s)

/-- TAIL: the deselect flag (R153, R171). -/
def stepTail (s : State) : State := if s.xfer.endSel then goTo .dselR s else goTo .done s

/-- DSEL_R: the read of DESELECT (spec/42_chipselect.md R152). -/
def stepDselR (s : State) : State := goWith .dselW { s.xfer with t := regPeek .ctrl s } (regRead .ctrl s)

/-- DSEL_W: the write of DESELECT (R152). -/
def stepDselW (s : State) : State :=
  goTo .done { regWrite .ctrl (rmwValue s.xfer.t (csEnMask s.params) 0) s with sel := false }

/-- R[3] of an XFER (R172). -/
def pathCode : Path → DWord
  | .polled => 0
  | .direct _ _ => 1

/-- DONE: the results and the status (R171, R172). A count of 2^64 or more, to which the spec gives no
`zext_64`, writes a free value (log 9). -/
def stepDone (s : State) : State :=
  endCommand s.xfer.status
    (setResults (zext64Nat s.xfer.words) (zext64Nat s.xfer.tmo) (pathCode s.xfer.path) s)

/-- One state of a running XFER (R171). -/
def xferStep (st : XferState) (s : State) : Host.Outcome State Fault Refusal :=
  match st with
  | .selR => .next (stepSelR s)
  | .selW => .next (stepSelW s)
  | .body => .next (stepBody s)
  | .pTest => .next (stepPTest s)
  | .pLenR => .next (stepPLenR s)
  | .pLenW => .next (stepPLenW s)
  | .pClrR => .next (stepPClrR s)
  | .pClrW => .next (stepPClrW s)
  | .pOutB0 => stepPOutB0 s
  | .pOutB1 => stepPOutB1 s
  | .pOutW => .next (stepPOutW s)
  | .pPoll => .next (stepPPoll s)
  | .pInR => .next (stepPInR s)
  | .pInB0 => stepPInB0 s
  | .pInB1 => stepPInB1 s
  | .pAdv => .next (stepPAdv s)
  | .pTmo => .next (stepPTmo s)
  | .dTest => .next (stepDTest s)
  | .dRd0 => stepDRd 0 .dRd1 s
  | .dRd1 => stepDRd 1 .dRd2 s
  | .dRd2 => stepDRd 2 .dRd3 s
  | .dRd3 => stepDRd 3 .dWW s
  | .dWW => .next (stepDWW s)
  | .dBrd => stepDBrd s
  | .dBw => .next (stepDBw s)
  | .tail => .next (stepTail s)
  | .dselR => .next (stepDselR s)
  | .dselW => .next (stepDselW s)
  | .done => .next (stepDone s)

end Sys2Proof.Machine
end

