-- ==== Sys2Proof/Machine/Dispatch.lean ====
section
/-! DEFINITION. One arm per command (spec/30_encoding.md R91). -/

namespace Sys2Proof.Machine

/-- The action of a command at a state: its decode checks of R94, its state checks and its effect. -/
def exec (i : Instr) (s : State) : Host.Outcome State Fault Refusal :=
  match i with
  | .setup => Sys2Proof.Machine.execSetup s
  | .claim cs => Sys2Proof.Machine.execClaim cs s
  | .release => Sys2Proof.Machine.execRelease s
  | .clkCompute => Sys2Proof.Machine.execClkCompute s
  | .setSpeed => Sys2Proof.Machine.execSetSpeed s
  | .modeCompute cpha cpol lsb => Sys2Proof.Machine.execModeCompute cpha cpol lsb s
  | .setMode cpha cpol lsb => Sys2Proof.Machine.execSetMode cpha cpol lsb s
  | .resolve cs hasOut hasIn => Sys2Proof.Machine.execResolve cs hasOut hasIn s
  | .xfer beginSel endSel hasOut hasIn => Sys2Proof.Machine.execXfer beginSel endSel hasOut hasIn s

end Sys2Proof.Machine
end

