-- ==== Sys2Proof/Machine/HostAgent.lean ====
section
/-! DEFINITION. The host agent between commands (spec/10_state.md R26, R27; spec/70_reset_and_hazards.md R277). -/

namespace Sys2Proof.Machine

/-- Write operand register `A[k]` (R26). -/
def writeOperand (k : Fin 3) (v : DWord) (s : State) : State :=
  match k with
  | 0 => { s with a0 := v }
  | 1 => { s with a1 := v }
  | 2 => { s with a2 := v }

/-- Write CMD, which starts a command (R26, R171: IDLE to CHECK). -/
def writeCmd (w : Word) (s : State) : State := { s with cmd := w, fsm := .check }

/-- One move of the host. A register access while the bus is claimed breaks the host's duty and is no move (R277); a memory
address has `ADDR_W` bits (R60). The host's accesses are not the core's and leave no event. -/
def hostMove (m : HostMove) (s : State) : Host.Outcome State Fault Refusal :=
  match m with
  | .writeA k v => .next (writeOperand k v s)
  | .writeCmd w => .next (writeCmd w s)
  | .writeMem a v =>
    if a < 2 ^ s.params.addrW then .next { s with mem := memPut s.mem a v } else .fault .hostMoveNotAdmitted
  | .writeReg r v => if s.claimed then .fault .hostMoveNotAdmitted else .next (regSet r v s)

/-- In FSM state IDLE the host makes its next move; with none left the core waits (R27, R270). -/
def hostStep (s : State) : Host.Outcome State Fault Refusal :=
  match s.host with
  | [] => .next s
  | m :: rest => hostMove m { s with host := rest }

end Sys2Proof.Machine
end

