-- ==== Sys2Proof/WellFormed.lean ====
section
/-! DEFINITION. Which configurations the model accepts (spec/00_scope.md R10; spec/10_state.md R31; spec/92_eei_decisions.md D7, D8). A step under
any other configuration is refused (Sys2Proof/Machine/Step.lean). Commands need no such check: the field types of `Instr` admit
exactly the values the encoding has (spec/30_encoding.md R93). -/

namespace Sys2Proof

open Machine

/-- No two of the masks share a bit. -/
def masksDisjoint : List Word → Bool
  | [] => true
  | m :: ms => ms.all (fun k => m &&& k == 0) && masksDisjoint ms

/-- Every element of `VALID_CS` is below `2^CS_W` (R10). -/
def Params.validCsOk (p : Params) : Bool := p.validCs.all fun c => decide (c < 2 ^ p.csW)

/-- Every window has `size > 0`, `base mod 4 = 0`, `base + size <= 2^ADDR_W` (R10). -/
def Params.windowsOk (p : Params) : Bool :=
  p.windows.all fun w => decide (0 < w.size) && decide (w.base % 4 = 0) && decide (w.base + w.size ≤ 2 ^ p.addrW)

/-- Every window belongs to an index in `VALID_CS` (R10). -/
def Params.windowsValidCs (p : Params) : Bool := p.windows.all fun w => p.validCs.contains w.cs

/-- `POLL_BOUND >= 1` (R10). -/
def Params.pollBoundOk (p : Params) : Bool := decide (1 ≤ p.pollBound)

/-- `DIRECT_BYTES(b) = b / 8` whenever `b mod 8 = 0` (R10): the table of departures names no multiple of 8. -/
def Params.directOk (p : Params) : Bool := p.directTable.all fun e => decide (e.1 % 8 ≠ 0)

/-- The seven offsets are distinct multiples of 4 (D7, spec/20_memory.md R66). -/
def Params.offsetsOk (p : Params) : Bool :=
  let o := p.offsets
  let l := [o.ctrl, o.cfg, o.dout, o.din, o.cause, o.mask, o.dwcfg]
  l.all (fun x => decide (x % 4 = 0)) && decide l.Nodup

/-- Every field lies within its 32-bit register (R29, R30, R33). DEDUCED (log 10). -/
def Params.fieldsFit (p : Params) : Bool :=
  let y := p.layout
  [y.csEn, y.ready, y.sppr0, y.xferLen, y.cpol, y.cpha, y.txLsbf, y.rxLsbf, y.wc].all (fun x => decide (x < 32)) &&
    decide (y.sppr21 + 2 ≤ 32) && decide (y.adrLen + 2 ≤ 32) && decide (y.cs + p.csW ≤ 32)

/-- The fields of CTRL are disjoint (R29). DEDUCED (log 10). -/
def Params.ctrlFieldsDisjoint (p : Params) : Bool := masksDisjoint [csEnMask p, readyMask p, csMask p]

/-- The fields of CFG are disjoint, so that the masks SET_SPEED, SET_MODE and XFER write are pairwise disjoint and none includes
ADRLEN (R31). -/
def Params.cfgFieldsDisjoint (p : Params) : Bool :=
  masksDisjoint [sprMask, sppr0Mask p, sppr21Mask p, xferLenMask p, adrLenMask p, cpolMask p, cphaMask p, txLsbfMask p,
    rxLsbfMask p]

/-- An address fits in an operand register (D2: 64 bits hold any `ADDR_W` address). DEDUCED (log 10). -/
def Params.addrWOk (p : Params) : Bool := decide (p.addrW ≤ 64)

/-- `HOST_MEM` is a set of `ADDR_W`-bit byte addresses (spec/20_memory.md R60, R61). DEDUCED (log 10). -/
def Params.hostMemOk (p : Params) : Bool := p.hostMem.all fun r => decide (r.base + r.size ≤ 2 ^ p.addrW)

/-- The configuration check: every condition above. It puts no condition on `REG_BASE`, not even that it be a multiple of 4: the
spec constrains the offsets and the windows only (DESIGN CHOICE, log 10). -/
def Params.wf (p : Params) : Bool :=
  p.validCsOk && p.windowsOk && p.windowsValidCs && p.pollBoundOk && p.directOk && p.offsetsOk && p.fieldsFit &&
    p.ctrlFieldsDisjoint && p.cfgFieldsDisjoint && p.addrWOk && p.hostMemOk

end Sys2Proof
end

