-- ==== Sys2Proof/Machine/Step.lean ====
section
/-! DEFINITION. One step of the machine (spec/43_transfer.md R171): the host's next move in IDLE, a whole command (or the checks of an XFER) in
CHECK, one state of a running XFER otherwise. A configuration that breaks R10 is refused. -/

namespace Sys2Proof.Machine

/-- One step. -/
def step (s : State) : Host.Outcome State Fault Refusal :=
  if s.params.wf then
    match s.fsm with
    | .idle => hostStep s
    | .check =>
      match decode s.cmd with
      | .ok i => exec i s
      | .error _ => .next (reservedCommand s)
    | .xfer st => xferStep st s
  else .refused .illFormedParams

/-- `s` just after the host wrote this word to CMD: the core fetches nothing (spec/20_memory.md R78), so a command is put where
step takes it from by writing CMD, which moves FSM to CHECK (R26, R171; log 8). -/
def State.withFetchWord (s : State) (nbits w : Nat) : State := writeCmd (tableWord nbits w) s

end Sys2Proof.Machine
end

