-- ==== Sys2Proof/Safety.lean ====
section
/-! DEFINITION. What claims are said in: runs, the two ways a command ends, the invariant, and the quantities the spec gives for a whole
transfer (spec/43_transfer.md R171, R179, R189, R190; spec/70_reset_and_hazards.md R278). -/

namespace Sys2Proof.Machine

/-- `n` steps, stopping at the first fault or refusal. -/
def run : Nat → State → Host.Outcome State Fault Refusal
  | 0, s => .next s
  | n + 1, s =>
    match step s with
    | .next t => run n t
    | .fault f => .fault f
    | .refused r => .refused r

/-- `t` follows `s` after some number of steps. -/
def Reaches (s t : State) : Prop := ∃ n, run n s = .next t

/-- The state in which a command has ended with status number `code` and no effect but that (spec/60_exceptions.md R242 to R244). -/
def refusedWith (code : DWord) (violates : Bool) (s : State) : State :=
  { s with
    r0 := code, r1 := 0, r2 := 0, r3 := 0
    violation := s.violation || violates
    fsm := .idle, xfer := Xfer.idle }

/-- The state in which a command has ended with OK and these results (spec/30_encoding.md R95). -/
def completedWith (v1 v2 v3 : DWord) (s : State) : State :=
  { s with r0 := 0, r1 := v1, r2 := v2, r3 := v3, fsm := .idle, xfer := Xfer.idle }

/-- The states of the direct strategy (spec/43_transfer.md R171, the D rows). -/
def isDirectState : XferState → Bool
  | .dTest => true
  | .dRd0 => true
  | .dRd1 => true
  | .dRd2 => true
  | .dRd3 => true
  | .dWW => true
  | .dBrd => true
  | .dBw => true
  | _ => false

/-- The states of the polled strategy (spec/43_transfer.md R171, the P rows). -/
def isPolledState : XferState → Bool
  | .pTest => true
  | .pLenR => true
  | .pLenW => true
  | .pClrR => true
  | .pClrW => true
  | .pOutB0 => true
  | .pOutB1 => true
  | .pOutW => true
  | .pPoll => true
  | .pInR => true
  | .pInB0 => true
  | .pInB1 => true
  | .pAdv => true
  | .pTmo => true
  | _ => false

/-- The states that may follow a state of a transfer (spec/43_transfer.md R171, the "next state" column). -/
def nextStates : XferState → List Fsm
  | .selR => [.xfer .selW]
  | .selW => [.xfer .body]
  | .body => [.xfer .pTest, .xfer .dTest]
  | .pTest => [.xfer .pLenR, .xfer .tail]
  | .pLenR => [.xfer .pLenW]
  | .pLenW => [.xfer .pClrR]
  | .pClrR => [.xfer .pClrW]
  | .pClrW => [.xfer .pOutB0, .xfer .pOutW]
  | .pOutB0 => [.xfer .pOutB1, .xfer .pOutW]
  | .pOutB1 => [.xfer .pOutW]
  | .pOutW => [.xfer .pPoll]
  | .pPoll => [.xfer .pInR, .xfer .pAdv, .xfer .pPoll, .xfer .pTmo]
  | .pInR => [.xfer .pInB0]
  | .pInB0 => [.xfer .pInB1, .xfer .pAdv]
  | .pInB1 => [.xfer .pAdv]
  | .pAdv => [.xfer .pTest]
  | .pTmo => [.xfer .pTest]
  | .dTest => [.xfer .dRd0, .xfer .dBrd, .xfer .tail]
  | .dRd0 => [.xfer .dRd1]
  | .dRd1 => [.xfer .dRd2]
  | .dRd2 => [.xfer .dRd3]
  | .dRd3 => [.xfer .dWW]
  | .dWW => [.xfer .dTest]
  | .dBrd => [.xfer .dBw]
  | .dBw => [.xfer .dTest]
  | .tail => [.xfer .dselR, .xfer .done]
  | .dselR => [.xfer .dselW]
  | .dselW => [.xfer .done]
  | .done => [.idle]

/-- Is this event the access R171's "access made" column names for the state? -/
def accessOf : XferState → Event → Bool
  | .selR, .regRead .ctrl _ _ => true
  | .selW, .regWrite .ctrl _ _ => true
  | .pLenR, .regRead .cfg _ _ => true
  | .pLenW, .regWrite .cfg _ _ => true
  | .pClrR, .regRead .cause _ _ => true
  | .pClrW, .regWrite .cause _ _ => true
  | .pOutB0, .memRead _ _ => true
  | .pOutB1, .memRead _ _ => true
  | .pOutW, .regWrite .dout _ _ => true
  | .pPoll, .regRead .cause _ _ => true
  | .pInR, .regRead .din _ _ => true
  | .pInB0, .memWrite _ _ => true
  | .pInB1, .memWrite _ _ => true
  | .dRd0, .memRead _ _ => true
  | .dRd1, .memRead _ _ => true
  | .dRd2, .memRead _ _ => true
  | .dRd3, .memRead _ _ => true
  | .dWW, .winWrite _ 4 _ => true
  | .dBrd, .memRead _ _ => true
  | .dBw, .winWrite _ 1 _ => true
  | .dselR, .regRead .ctrl _ _ => true
  | .dselW, .regWrite .ctrl _ _ => true
  | _, _ => false

/-- The part of the invariant that is about the machine outside the transfer engine. -/
structure CoreInv (s : State) : Prop where
  /-- The configuration is one the model accepts (spec/00_scope.md R10). -/
  params_wf : s.params.wf = true
  /-- Host memory is in canonical form. -/
  mem_wf : memWf s.mem = true
  /-- Host memory holds `ADDR_W`-bit addresses (spec/20_memory.md R60). -/
  mem_addr : ∀ a v, (a, v) ∈ s.mem → a < 2 ^ s.params.addrW
  /-- CLAIMED = 0 implies SEL = 0 (spec/44_bus.md R228). -/
  free_unselected : s.claimed = false → s.sel = false
  /-- CLAIMED = 0 goes with CLAIMED_CS = none (R224, R227). -/
  free_no_cs : s.claimed = false → s.claimedCs = none
  /-- CLAIMED = 1 implies that CLAIMED_CS is in VALID_CS (R228). -/
  claimed_cs : s.claimed = true → ∃ cs, s.claimedCs = some cs ∧ cs.toNat ∈ s.params.validCs
  /-- A claim needs INIT (R222). -/
  claimed_init : s.claimed = true → s.init = true
  /-- TIMEOUT_TOTAL counts the events of DIAG modulo 2^32 (spec/10_state.md R24). -/
  timeouts_logged : s.timeoutTotal = BitVec.ofNat 32 s.diag.length
  /-- Codes 9 and above are never written (spec/60_exceptions.md R241). -/
  status_known : s.r0.toNat ≤ 8
  /-- A contract-violation status has set VIOLATION (R243). -/
  violation_recorded : 5 ≤ s.r0.toNat → s.violation = true

/-- The part of the invariant that is about a running transfer. -/
structure XferInv (s : State) : Prop where
  /-- A transfer runs under a claim (spec/43_transfer.md R173). -/
  xfer_claimed : ∀ st, s.fsm = .xfer st → s.claimed = true
  /-- Between the halves of SELECT and DESELECT, CTRL is what was read (spec/20_memory.md R72). -/
  select_half : s.fsm = .xfer .selW ∨ s.fsm = .xfer .dselW → s.xfer.t = s.ctrl
  /-- Between the halves of the XFERLEN update, CFG is what was read (R72). -/
  length_half : s.fsm = .xfer .pLenW → s.xfer.t = s.cfg
  /-- A poll is made only while `n < POLL_BOUND` (spec/43_transfer.md R181). -/
  poll_bounded : s.fsm = .xfer .pPoll → s.xfer.n < s.params.pollBound
  /-- The out cursor is an `ADDR_W`-bit address (R179). -/
  out_cursor : ∀ a, s.xfer.op = some a → a < 2 ^ s.params.addrW
  /-- The in cursor is an `ADDR_W`-bit address (R179). -/
  in_cursor : ∀ a, s.xfer.ip = some a → a < 2 ^ s.params.addrW
  /-- The direct path has an output buffer and no input buffer (spec/42_chipselect.md R156). -/
  direct_buffers : ∀ base size, s.xfer.path = .direct base size → s.xfer.op.isSome = true ∧ s.xfer.ip = none
  /-- The polled states run on the polled path. -/
  polled_path : ∀ st, s.fsm = .xfer st → isPolledState st = true → s.xfer.path = .polled
  /-- The direct states run on a direct path. -/
  direct_path : ∀ st, s.fsm = .xfer st → isDirectState st = true → s.xfer.path ≠ .polled
  /-- Out bytes are read only from an output buffer (R179). -/
  out_states : s.fsm = .xfer .pOutB0 ∨ s.fsm = .xfer .pOutB1 → s.xfer.op.isSome = true
  /-- DIN is read and stored only for an input buffer (R182). -/
  in_states : s.fsm = .xfer .pInR ∨ s.fsm = .xfer .pInB0 ∨ s.fsm = .xfer .pInB1 → s.xfer.ip.isSome = true
  /-- A transfer ends with OK or WORD_TIMEOUT; under CONTINUE with OK (R184). -/
  xfer_status : s.xfer.status = .ok ∨ (s.params.timeoutPolicy = .abort ∧ s.xfer.status = .wordTimeout)
  /-- The loop is stopped exactly by a timeout under ABORT (R183). -/
  xfer_stop : s.xfer.stop = true ↔ s.xfer.status = .wordTimeout

/-- The invariant of the machine: what holds at reset under any accepted configuration and after every step. -/
structure Inv (s : State) : Prop where
  core : CoreInv s
  xfer : XferInv s

/-- How many words a polled transfer of `b` bits runs when every word completes: `k = ceil((b - 8) / 16)` two-byte words, then a
one-byte word if `b - 16k > 4` (spec/43_transfer.md R189; none for `b <= 4`, R174). -/
def polledWords (b : Nat) : Nat :=
  if b ≤ 4 then 0 else (b - 8 + 15) / 16 + (if 4 < b - 16 * ((b - 8 + 15) / 16) then 1 else 0)

/-- How many bytes it moves: `2k` plus one more in that case (R189). -/
def polledBytes (b : Nat) : Nat :=
  if b ≤ 4 then 0 else 2 * ((b - 8 + 15) / 16) + (if 4 < b - 16 * ((b - 8 + 15) / 16) then 1 else 0)

/-- Every byte of a buffer, if it is present, is in `HOST_MEM` (spec/20_memory.md R61). -/
def bufferAdmitted (p : Params) (buf : Option Nat) (n : Nat) : Prop :=
  ∀ a, buf = some a → ∀ j, j < n → admits p (addrAdd p a j) = true

/-- Starting with CAUSE read number `k`, an attempt at a word times out: the clear reads CAUSE once (its WC is free), then
`POLL_BOUND` polls show WC = 0 (spec/43_transfer.md R178, R181, R183). -/
abbrev attemptFails (s : State) (k : Nat) : Prop :=
  ∀ j, j < s.params.pollBound → wcSet s.params (causeDraw s (k + 1 + j)) = false

/-- Starting with CAUSE read number `k`, an attempt at a word completes at poll `q + 1` (the oracle `polls_to_complete` of
spec/10_state.md R41): the clear reads CAUSE once, then `q` polls show WC = 0 and the next shows WC = 1. -/
abbrev attemptCompletes (s : State) (k q : Nat) : Prop :=
  q < s.params.pollBound ∧ (∀ j, j < q → wcSet s.params (causeDraw s (k + 1 + j)) = false) ∧
    wcSet s.params (causeDraw s (k + 1 + q)) = true

/-- Starting with CAUSE read number `k`, each word completes on some attempt (the premise of R187): for the list of pairs `(r, q)`,
`r` attempts time out, under CONTINUE only (R184), and the next completes at poll `q + 1`. -/
def wordsComplete (s : State) : Nat → List (Nat × Nat) → Prop
  | _, [] => True
  | k, (r, q) :: ws =>
    (0 < r → s.params.timeoutPolicy = .continues) ∧
      (∀ i, i < r → attemptFails s (k + i * (s.params.pollBound + 1))) ∧
      attemptCompletes s (k + r * (s.params.pollBound + 1)) q ∧
      wordsComplete s (k + r * (s.params.pollBound + 1) + q + 2) ws

/-- The word timeouts of such a list: one for each attempt that times out (R183). -/
def retries (ws : List (Nat × Nat)) : Nat := (ws.map fun w => w.1).sum

/-- The CAUSE reads of such a list: a clear and `POLL_BOUND` polls for each attempt that times out, a clear and `q + 1` polls for the
one that completes (R178, R181). -/
def causeReadsOf (p : Params) (ws : List (Nat × Nat)) : Nat :=
  (ws.map fun w => w.1 * (p.pollBound + 1) + w.2 + 2).sum

/-- The values written to DOUT, in order. -/
def doutWrites (s : State) : List Word :=
  s.trace.filterMap fun e => match e with
    | .regWrite .dout _ v => some v
    | _ => none

/-- The output word read at a cursor, little-endian (spec/20_memory.md R63); 0 without an output buffer (spec/43_transfer.md R179). -/
def outWord (p : Params) (m : List Host.Cell) (op : Option Nat) (w : Width) : Half :=
  match op, w with
  | none, _ => 0
  | some a, .one => (memGet m a).setWidth 16
  | some a, .two => memGet m (addrAdd p a 1) ++ memGet m a

/-- The host-memory reads of an output word, in order (R179). -/
def outReads (p : Params) (m : List Host.Cell) (op : Option Nat) (w : Width) : List Event :=
  match op, w with
  | none, _ => []
  | some a, .one => [.memRead a (memGet m a)]
  | some a, .two => [.memRead a (memGet m a), .memRead (addrAdd p a 1) (memGet m (addrAdd p a 1))]

/-- The DOUT values of a polled transfer of `b` bits from address `a` whose words complete as `ws` says: halfwords while more than 8
bits remain, else a byte (R177, R179, R189), each once more for every attempt that times out (R186). -/
def sentWords (p : Params) (m : List Host.Cell) (a b : Nat) (ws : List (Nat × Nat)) : List Word :=
  (List.range (polledWords b)).flatMap fun j =>
    List.replicate (((ws[j]?).getD (0, 0)).1 + 1)
      ((outWord p m (some (addrAdd p a (2 * j))) (if b - 16 * j ≤ 8 then .one else .two)).setWidth 32)

/-- The accesses of SELECT when CTRL reads `t` and `v` is written, if the flag is set, and likewise of DESELECT
(spec/42_chipselect.md R151 to R153). -/
def selectAccesses (p : Params) (flag : Bool) (t v : Word) : List Event :=
  if flag then [.regRead .ctrl (regAddr p .ctrl) t, .regWrite .ctrl (regAddr p .ctrl) v] else []

/-- The host-memory byte the machine accesses in its next step, if that step makes such an access (spec/43_transfer.md R171, R179,
R182, R190). -/
def accessedByte (s : State) : Option Nat :=
  match s.fsm with
  | .xfer .pOutB0 => s.xfer.op
  | .xfer .pOutB1 => s.xfer.op.map fun a => addrAdd s.params a 1
  | .xfer .pInB0 => s.xfer.ip
  | .xfer .pInB1 => s.xfer.ip.map fun b => addrAdd s.params b 1
  | .xfer .dRd0 => some (addrAdd s.params (s.xfer.op.getD 0) 0)
  | .xfer .dRd1 => some (addrAdd s.params (s.xfer.op.getD 0) 1)
  | .xfer .dRd2 => some (addrAdd s.params (s.xfer.op.getD 0) 2)
  | .xfer .dRd3 => some (addrAdd s.params (s.xfer.op.getD 0) 3)
  | .xfer .dBrd => some (s.xfer.op.getD 0)
  | _ => none

/-- The window writes of a direct transfer of `n` bytes from address `a` (R190): full words, then bytes, all at `base`. -/
def streamedWrites (p : Params) (m : List Host.Cell) (base a n : Nat) : List (Nat × Nat × Word) :=
  (List.range (n / 4)).map (fun k =>
      (base, 4, memGet m (addrAdd p a (4 * k + 3)) ++ memGet m (addrAdd p a (4 * k + 2)) ++
        memGet m (addrAdd p a (4 * k + 1)) ++ memGet m (addrAdd p a (4 * k)))) ++
    (List.range (n % 4)).map fun k => (base, 1, (memGet m (addrAdd p a (4 * (n / 4) + k))).setWidth 32)

/-- The read of byte `j` of a buffer. -/
def byteRead (p : Params) (m : List Host.Cell) (a j : Nat) : Event := .memRead (addrAdd p a j) (memGet m (addrAdd p a j))

/-- The accesses of a direct transfer of `n` bytes from address `a` (R190): four byte reads and a 4-byte window write for each full
word, then a byte read and a 1-byte window write for each remaining byte. -/
def streamedAccesses (p : Params) (m : List Host.Cell) (base a n : Nat) : List Event :=
  (List.range (n / 4)).flatMap (fun k =>
      [byteRead p m a (4 * k), byteRead p m a (4 * k + 1), byteRead p m a (4 * k + 2), byteRead p m a (4 * k + 3),
        .winWrite base 4 (memGet m (addrAdd p a (4 * k + 3)) ++ memGet m (addrAdd p a (4 * k + 2)) ++
          memGet m (addrAdd p a (4 * k + 1)) ++ memGet m (addrAdd p a (4 * k)))]) ++
    (List.range (n % 4)).flatMap fun k =>
      [byteRead p m a (4 * (n / 4) + k),
        .winWrite base 1 ((memGet m (addrAdd p a (4 * (n / 4) + k))).setWidth 32)]

end Sys2Proof.Machine
end

