-- ==== Sys2Proof/Certificates/Slice0/Obligations.lean ====
section
/-! DEFINITION. The statements for the provers. Statuses are written as the numbers of spec/60_exceptions.md R241. -/

open Sys2Proof Sys2Proof.Machine

/-! ### Encoding -/

/-- R92, R93: a word spells a command exactly when it matches the command's row, and its operands are the CMD fields. -/
def Obligations.CommandWordsFollowTheTable : Prop :=
  ∀ w : Word,
    (decode w = .ok .setup ↔ w &&& 0xFFFFFFFF = 0x00000001) ∧
    (∀ cs, decode w = .ok (.claim cs) ↔ w &&& 0xFFFFF8FF = 0x00000002 ∧ w.extractLsb' 8 3 = cs) ∧
    (decode w = .ok .release ↔ w &&& 0xFFFFFFFF = 0x00000003) ∧
    (decode w = .ok .clkCompute ↔ w &&& 0xFFFFFFFF = 0x00000004) ∧
    (decode w = .ok .setSpeed ↔ w &&& 0xFFFFFFFF = 0x00000005) ∧
    (∀ h l b, decode w = .ok (.modeCompute h l b) ↔
      w &&& 0xFFFFC7FF = 0x00000006 ∧ w.getLsbD 11 = h ∧ w.getLsbD 12 = l ∧ w.getLsbD 13 = b) ∧
    (∀ h l b, decode w = .ok (.setMode h l b) ↔
      w &&& 0xFFFFC7FF = 0x00000007 ∧ w.getLsbD 11 = h ∧ w.getLsbD 12 = l ∧ w.getLsbD 13 = b) ∧
    (∀ cs o i, decode w = .ok (.resolve cs o i) ↔
      w &&& 0xFFFFF83F = 0x00000008 ∧ w.extractLsb' 8 3 = cs ∧ w.getLsbD 6 = o ∧ w.getLsbD 7 = i) ∧
    (∀ b e o i, decode w = .ok (.xfer b e o i) ↔
      w &&& 0xFFFFFF0F = 0x00000009 ∧ w.getLsbD 4 = b ∧ w.getLsbD 5 = e ∧ w.getLsbD 6 = o ∧ w.getLsbD 7 = i)

/-- R90 to R92: every command is read back from its word, and every command word is the word of what it spells. -/
def Obligations.DecodeAndEncodeAgree : Prop :=
  (∀ i : Instr, decode (encode i) = .ok i) ∧ ∀ (w : Word) (i : Instr), decode w = .ok i → encode i = w

/-- R97: opcodes 0x0 and 0xA to 0xF are refused with RESERVED_COMMAND and never execute as a command. -/
def Obligations.ReservedOpcodesAreRefused : Prop :=
  ∀ s : State, s.params.wf = true → s.fsm = .check →
    (s.cmd.extractLsb' 0 4 = 0#4 ∨ 0xA#4 ≤ s.cmd.extractLsb' 0 4) →
    (∀ i, decode s.cmd ≠ .ok i) ∧ step s = .next (refusedWith 8 true s)

/-- R96: a word that spells no command, or a command whose operand breaks a constraint of R94, ends with RESERVED_COMMAND and
nothing else happens. -/
def Obligations.BadCommandsEndReserved : Prop :=
  ∀ s : State,
    (s.params.wf = true → s.fsm = .check → (∀ i, decode s.cmd ≠ .ok i) → step s = .next (refusedWith 8 true s)) ∧
    (s.a0.extractLsb' 32 32 ≠ 0 ∨ s.a1.extractLsb' 32 32 ≠ 0 → exec .clkCompute s = .next (refusedWith 8 true s)) ∧
    (s.a0.extractLsb' 32 32 ≠ 0 → exec .setSpeed s = .next (refusedWith 8 true s)) ∧
    (∀ b e o i, s.a0.extractLsb' 32 32 ≠ 0 ∨ (o = true ∧ 2 ^ s.params.addrW ≤ s.a1.toNat) ∨
        (i = true ∧ 2 ^ s.params.addrW ≤ s.a2.toNat) →
      exec (.xfer b e o i) s = .next (refusedWith 8 true s))

/-- Words of spec/95_test_vectors.md sections 2 and 3 decode to the command lines they stand beside. -/
def Obligations.SampleWordsDecode : Prop :=
  decode 0x00000001 = .ok .setup ∧ decode 0x00000502 = .ok (.claim 5) ∧ decode 0x00000003 = .ok .release ∧
    decode 0x00000004 = .ok .clkCompute ∧ decode 0x00000005 = .ok .setSpeed ∧
    decode 0x00002806 = .ok (.modeCompute true false true) ∧ decode 0x00001807 = .ok (.setMode true true false) ∧
    decode 0x00000148 = .ok (.resolve 1 true false) ∧ decode 0x00000059 = .ok (.xfer true false true false) ∧
    decode 0x000000A9 = .ok (.xfer false true false true) ∧
    decode 0x0000000A = .error .reservedOpcode ∧ decode 0x00000011 = .error .nonzeroUnusedBits

/-! ### The step -/

/-- In CHECK, a step is the action of the command CMD spells; the word put by `withFetchWord` is that command. The model's choices:
that one step runs the whole command, for the commands other than XFER (log 6), and that `withFetchWord` is the host's write of CMD
(log 8). -/
def Obligations.StepRunsTheDecodedCommand : Prop :=
  (∀ (s : State) (i : Instr), s.params.wf = true → s.fsm = .check → decode s.cmd = .ok i → step s = exec i s) ∧
    ∀ (s : State) (w : Word) (i : Instr), s.params.wf = true → decode w = .ok i →
      step (s.withFetchWord 32 w.toNat) = exec i { s with cmd := w, fsm := .check }

/-- R26, R38, R270, R277: in IDLE the host's next move is made, and with none left the core waits. That the host is a list of moves,
and that a move the spec does not admit stops the model, is the model's choice (log 7). -/
def Obligations.IdleStepIsTheHostsMove : Prop :=
  ∀ s : State, s.params.wf = true → memWf s.mem = true → s.fsm = .idle →
    (s.host = [] → step s = .next s) ∧
    (∀ w rest, s.host = .writeCmd w :: rest → step s = .next { s with host := rest, cmd := w, fsm := .check }) ∧
    (∀ v rest, s.host = .writeA 0 v :: rest → step s = .next { s with host := rest, a0 := v }) ∧
    (∀ v rest, s.host = .writeA 1 v :: rest → step s = .next { s with host := rest, a1 := v }) ∧
    (∀ v rest, s.host = .writeA 2 v :: rest → step s = .next { s with host := rest, a2 := v }) ∧
    (∀ a v rest, s.host = .writeMem a v :: rest → a < 2 ^ s.params.addrW →
      ∃ t, step s = .next t ∧ memGet t.mem a = v ∧ (∀ b, b ≠ a → memGet t.mem b = memGet s.mem b) ∧
        t = { s with host := rest, mem := t.mem }) ∧
    (∀ a v rest, s.host = .writeMem a v :: rest → 2 ^ s.params.addrW ≤ a → step s = .fault .hostMoveNotAdmitted) ∧
    (∀ r v rest, s.host = .writeReg r v :: rest → s.claimed = false → step s = .next (match r with
      | .ctrl => { s with host := rest, ctrl := v }
      | .cfg => { s with host := rest, cfg := v }
      | .dout => { s with host := rest, dout := v }
      | .din => { s with host := rest, din := v }
      | .cause => { s with host := rest, cause := v }
      | .mask => { s with host := rest, mask := v }
      | .dwcfg => { s with host := rest, dwcfg := v })) ∧
    (∀ r v rest, s.host = .writeReg r v :: rest → s.claimed = true → step s = .fault .hostMoveNotAdmitted)

/-- R27: no host move is made while a command runs, and a command changes neither A nor CMD (R26). -/
def Obligations.HostIsBlockedDuringACommand : Prop :=
  ∀ s t : State, s.fsm ≠ .idle → step s = .next t →
    t.host = s.host ∧ t.a0 = s.a0 ∧ t.a1 = s.a1 ∧ t.a2 = s.a2 ∧ t.cmd = s.cmd

/-- R10: a configuration that breaks one of the five conditions is refused. -/
def Obligations.IllFormedConfigurationsAreRefused : Prop :=
  ∀ s : State,
    ((∃ c ∈ s.params.validCs, 2 ^ s.params.csW ≤ c) ∨
      (∃ w ∈ s.params.windows, w.size = 0 ∨ w.base % 4 ≠ 0 ∨ 2 ^ s.params.addrW < w.base + w.size) ∨
      (∃ w ∈ s.params.windows, w.cs ∉ s.params.validCs) ∨
      s.params.pollBound = 0 ∨
      (∃ b, b % 8 = 0 ∧ directBytes s.params b ≠ b / 8)) →
    step s = .refused .illFormedParams

/-- R272: no step changes the static configuration. -/
def Obligations.ConfigurationNeverChanges : Prop := ∀ s t : State, step s = .next t → t.params = s.params

/-! ### Reset -/

/-- R46: the internal state and the command registers after reset, under any launch. -/
def Obligations.ResetClearsInternalState : Prop :=
  ∀ p : Params, ∃ s, s = State.launch p ∧ s.init = false ∧ s.claimed = false ∧ s.claimedCs = none ∧ s.sel = false ∧
    s.curClock = none ∧ s.curMode = none ∧ s.timeoutTotal = 0 ∧ s.violation = false ∧ s.diag = [] ∧ s.fsm = .idle ∧
    s.a0 = 0 ∧ s.a1 = 0 ∧ s.a2 = 0 ∧ s.r0 = 0 ∧ s.r1 = 0 ∧ s.r2 = 0 ∧ s.r3 = 0

/-- R228 and the rest of `Inv` hold at reset under every accepted configuration. -/
def Obligations.InvariantHoldsAtReset : Prop :=
  (∀ p : Params, p.wf = true → Inv (State.launch p)) ∧ Inv State.reset

/-- R228, R24, R181, R184, R241, R243 and the canonical form of memory: every step keeps `Inv`. -/
def Obligations.StepKeepsInvariant : Prop := ∀ s t : State, Inv s → step s = .next t → Inv t

/-! ### Register fields -/

/-- R31: the masks SET_SPEED, SET_MODE and XFER write are pairwise disjoint and none includes ADRLEN, under every accepted
configuration; with the default positions they have the values of the rule and touch no reserved bit. -/
def Obligations.WrittenMasksAreDisjoint : Prop :=
  (∀ p : Params, p.wf = true →
    clockMask p &&& xferLenMask p = 0 ∧ clockMask p &&& modeMask p = 0 ∧ xferLenMask p &&& modeMask p = 0 ∧
      clockMask p &&& adrLenMask p = 0 ∧ xferLenMask p &&& adrLenMask p = 0 ∧ modeMask p &&& adrLenMask p = 0) ∧
    ∀ p : Params, p.layout = {} →
      clockMask p = 0x000000DF ∧ xferLenMask p = 0x00000020 ∧ modeMask p = 0x00007800 ∧ adrLenMask p = 0x00000300

/-- R32: the clock image of a divider pair, and its value with the default positions. -/
def Obligations.ClockImageOfAPair : Prop :=
  ∀ (p : Params) (c : ClockPair),
    clkImg p c = fieldImg 0 c.spr.toNat ||| fieldImg p.layout.sppr0 (c.sppr.extractLsb' 0 1).toNat |||
      fieldImg p.layout.sppr21 (c.sppr.extractLsb' 1 2).toNat ∧
    (p.layout = {} →
      clkImg p c = c.spr.setWidth 32 ||| ((c.sppr.extractLsb' 0 1).setWidth 32 <<< 4) |||
        ((c.sppr.extractLsb' 1 2).setWidth 32 <<< 6))

/-! ### Clock divider -/

/-- R125, first sentence: the error verdict, with `d > 1920` written without the division. -/
def Obligations.ClockDivErrorExactlyOutOfRange : Prop :=
  ∀ core target : Nat, clockDiv core target = none ↔ target = 0 ∨ 1920 * target < core

/-- R128: the programmed divider is at least `d = ceil(core / target)`, is the smallest representable such value, equals `d` in
the cases named, and the bus clock it programs is at most the target. -/
def Obligations.ClockDivIsTheBestDivider : Prop :=
  ∀ (core target d : Nat) (c : ClockPair), 0 < core → 0 < target →
    core ≤ d * target → (∀ q, core ≤ q * target → d ≤ q) → clockDiv core target = some c →
    d ≤ c.spr.toNat * 2 ^ c.sppr.toNat ∧
    (∀ m p, m ≤ 15 → p ≤ 7 → d ≤ m * 2 ^ p → c.spr.toNat * 2 ^ c.sppr.toNat ≤ m * 2 ^ p) ∧
    (c.spr.toNat * 2 ^ c.sppr.toNat = d ↔ d < 16 ∨ 2 ^ (fls d - 4) ∣ d) ∧
    c.sppr.toNat ≤ 7 ∧ c.spr.toNat ≤ 15 ∧
    core ≤ target * (c.spr.toNat * 2 ^ c.sppr.toNat)

/-- R123, R124: the small branch gives SPR = d, SPPR = 0 and never fails; the large branch gives SPR in 8 to 15 and SPPR at
least 1. `d` is `ceil(core / target)`. -/
def Obligations.ClockDivBranches : Prop :=
  ∀ core target d : Nat, 0 < target → core ≤ d * target → (∀ q, core ≤ q * target → d ≤ q) →
    (d < 16 → ∃ c, clockDiv core target = some c ∧ c.spr.toNat = d ∧ c.sppr.toNat = 0) ∧
    (16 ≤ d → ∀ c, clockDiv core target = some c → 8 ≤ c.spr.toNat ∧ c.spr.toNat ≤ 15 ∧ 1 ≤ c.sppr.toNat) ∧
    (d = 0 ↔ core = 0) ∧ (0 < core → core ≤ target → d = 1)

/-- R126: CLK_COMPUTE (word 0x4) ends with the divider and its image, with CONFIG_ERROR, or on a bad operand with
RESERVED_COMMAND, and changes nothing else. -/
def Obligations.ClkComputeResult : Prop :=
  decode 0x00000004 = .ok .clkCompute ∧ ∀ s : State, exec .clkCompute s = .next (
    if s.a0.extractLsb' 32 32 ≠ 0 ∨ s.a1.extractLsb' 32 32 ≠ 0 then refusedWith 8 true s
    else match clockDiv (s.a0.extractLsb' 0 32).toNat (s.a1.extractLsb' 0 32).toNat with
      | some c => completedWith (c.spr.setWidth 64) (c.sppr.setWidth 64) ((clkImg s.params c).setWidth 64) s
      | none => refusedWith 1 false s)

/-- R127: the statuses of SET_SPEED in order, and its effect: one read and one write of CFG, the shadow and the results. -/
def Obligations.SetSpeedResult : Prop :=
  decode 0x00000005 = .ok .setSpeed ∧ ∀ s : State, exec .setSpeed s = .next (
    if s.a0.extractLsb' 32 32 ≠ 0 then refusedWith 8 true s
    else if s.init = false then refusedWith 7 true s
    else if s.claimed = false then refusedWith 5 true s
    else if s.sel = true then refusedWith 6 true s
    else match clockDiv s.params.coreHz.toNat (s.a0.extractLsb' 0 32).toNat with
      | none => refusedWith 1 false s
      | some c =>
        completedWith (c.spr.setWidth 64) (c.sppr.setWidth 64) ((clkImg s.params c).setWidth 64)
          { s with
            cfg := (s.cfg &&& ~~~(clockMask s.params)) ||| clkImg s.params c
            curClock := some c
            trace := s.trace ++ [.regRead .cfg (regAddr s.params .cfg) s.cfg,
              .regWrite .cfg (regAddr s.params .cfg) ((s.cfg &&& ~~~(clockMask s.params)) ||| clkImg s.params c)] })

/-- R127 and R32 on the bits of CFG: under an accepted configuration SPR, SPPR bit 0 and SPPR bits 2:1 hold the new pair and every
bit outside CLOCK_MASK is unchanged. -/
def Obligations.SetSpeedProgramsTheDividerFields : Prop :=
  ∀ (p : Params) (old : Word) (c : ClockPair), p.wf = true → ∀ v, v = (old &&& ~~~(clockMask p)) ||| clkImg p c →
    v.extractLsb' 0 4 = c.spr ∧ v.getLsbD p.layout.sppr0 = c.sppr.getLsbD 0 ∧
      v.extractLsb' p.layout.sppr21 2 = c.sppr.extractLsb' 1 2 ∧
      (∀ k, (clockMask p).getLsbD k = false → v.getLsbD k = old.getLsbD k)

/-! ### Mode encoder -/

/-- R142: the table of the encoder's values with the default positions. -/
def Obligations.ModeEncoderTable : Prop :=
  (∀ p : Params, p.layout = {} →
    modeEnc p ⟨false, false, false⟩ = 0x00000000 ∧ modeEnc p ⟨true, false, false⟩ = 0x00001000 ∧
    modeEnc p ⟨false, true, false⟩ = 0x00000800 ∧ modeEnc p ⟨true, true, false⟩ = 0x00001800 ∧
    modeEnc p ⟨false, false, true⟩ = 0x00006000 ∧ modeEnc p ⟨true, false, true⟩ = 0x00007000 ∧
    modeEnc p ⟨false, true, true⟩ = 0x00006800 ∧ modeEnc p ⟨true, true, true⟩ = 0x00007800) ∧
  ∀ (p : Params) (m : ModeFlags), p.wf = true →
    (modeEnc p m).getLsbD p.layout.txLsbf = (modeEnc p m).getLsbD p.layout.rxLsbf

/-- R144: MODE_COMPUTE always ends with OK and the image, and changes nothing else. -/
def Obligations.ModeComputeResult : Prop :=
  ∀ (s : State) (h l b : Bool),
    decode (0x00000006 ||| (BitVec.ofBool h).setWidth 32 <<< 11 ||| (BitVec.ofBool l).setWidth 32 <<< 12 |||
      (BitVec.ofBool b).setWidth 32 <<< 13) = .ok (.modeCompute h l b) ∧
    exec (.modeCompute h l b) s = .next (completedWith ((modeEnc s.params ⟨h, l, b⟩).setWidth 64) 0 0 s)

/-- R145: the statuses of SET_MODE in order, and its effect. -/
def Obligations.SetModeResult : Prop :=
  ∀ (s : State) (h l b : Bool),
    decode (0x00000007 ||| (BitVec.ofBool h).setWidth 32 <<< 11 ||| (BitVec.ofBool l).setWidth 32 <<< 12 |||
      (BitVec.ofBool b).setWidth 32 <<< 13) = .ok (.setMode h l b) ∧
    exec (.setMode h l b) s = .next (
    if s.init = false then refusedWith 7 true s
    else if s.claimed = false then refusedWith 5 true s
    else if s.sel = true then refusedWith 6 true s
    else completedWith ((modeEnc s.params ⟨h, l, b⟩).setWidth 64) 0 0
      { s with
        cfg := (s.cfg &&& ~~~(modeMask s.params)) ||| modeEnc s.params ⟨h, l, b⟩
        curMode := some ⟨h, l, b⟩
        trace := s.trace ++ [.regRead .cfg (regAddr s.params .cfg) s.cfg,
          .regWrite .cfg (regAddr s.params .cfg) ((s.cfg &&& ~~~(modeMask s.params)) ||| modeEnc s.params ⟨h, l, b⟩)] })

/-- R141 and R145 on the bits of CFG: under an accepted configuration the four mode bits hold the flags and every bit outside
MODE_MASK is unchanged. -/
def Obligations.SetModeProgramsTheModeFields : Prop :=
  ∀ (p : Params) (old : Word) (m : ModeFlags), p.wf = true → ∀ v, v = (old &&& ~~~(modeMask p)) ||| modeEnc p m →
    v.getLsbD p.layout.cpha = m.cpha ∧ v.getLsbD p.layout.cpol = m.cpol ∧ v.getLsbD p.layout.txLsbf = m.lsb ∧
      v.getLsbD p.layout.rxLsbf = m.lsb ∧ (∀ k, (modeMask p).getLsbD k = false → v.getLsbD k = old.getLsbD k)

/-! ### Chip select and paths -/

/-- R156: the path is Direct exactly with a window, an output buffer and no input buffer. -/
def Obligations.PathIsDirectOnlyForOutputWithWindow : Prop :=
  ∀ (p : Params) (cs : BitVec 3) (hasOut hasIn : Bool),
    (∀ base size, pathOf p cs hasOut hasIn = .direct base size ↔
      hasOut = true ∧ hasIn = false ∧ ∃ w, windowOf p cs.toNat = some w ∧ w.base = base ∧ w.size = size) ∧
    (pathOf p cs hasOut hasIn = .polled ↔ hasOut = false ∨ hasIn = true ∨ windowOf p cs.toNat = none)

/-- R157: RESOLVE ends with INVALID_CS, or with OK and the path, and changes nothing else. A window's base and size are given where they
fit 64 bits; what R[2] or R[3] holds for a greater number the spec does not state (log 9). -/
def Obligations.ResolveResult : Prop :=
  ∀ (s : State) (cs : BitVec 3) (hasOut hasIn : Bool),
    decode (0x00000008 ||| cs.setWidth 32 <<< 8 ||| (BitVec.ofBool hasOut).setWidth 32 <<< 6 |||
      (BitVec.ofBool hasIn).setWidth 32 <<< 7) = .ok (.resolve cs hasOut hasIn) ∧
    ∃ r2 r3 : DWord,
      (∀ base size, pathOf s.params cs hasOut hasIn = .direct base size →
        (base < 2 ^ 64 → r2.toNat = base) ∧ (size < 2 ^ 64 → r3.toNat = size)) ∧
      exec (.resolve cs hasOut hasIn) s = .next (
        if cs.toNat ∉ s.params.validCs then refusedWith 2 false s
        else match pathOf s.params cs hasOut hasIn with
          | .polled => completedWith 0 0 0 s
          | .direct _ _ => completedWith 1 r2 r3 s)

/-- R151: SELECT is one read and one write of CTRL that sets the index field and CS_EN, and sets SEL; under the invariant the bus
is claimed for a valid index. -/
def Obligations.SelectAction : Prop :=
  ∀ (s : State) (cs : BitVec 3) (v : Word), s.params.wf = true → s.fsm = .xfer .selR → s.claimedCs = some cs →
    v = (s.ctrl &&& ~~~(csEnMask s.params ||| csMask s.params)) ||| (fieldImg s.params.layout.cs cs.toNat ||| csEnMask s.params) →
    run 2 s = .next { s with
      fsm := .xfer .body, ctrl := v, sel := true, xfer := { s.xfer with t := s.ctrl }
      trace := s.trace ++ [.regRead .ctrl (regAddr s.params .ctrl) s.ctrl, .regWrite .ctrl (regAddr s.params .ctrl) v] } ∧
    (s.params.layout = {} → s.params.csW = 3 → v = (s.ctrl &&& ~~~(0x1D : Word)) ||| (cs.setWidth 32 <<< 2) ||| 1) ∧
    (Inv s → s.claimed = true ∧ cs.toNat ∈ s.params.validCs)

/-- R152: DESELECT is one read and one write of CTRL that clears CS_EN alone, and clears SEL. -/
def Obligations.DeselectAction : Prop :=
  ∀ (s : State) (v : Word), s.params.wf = true → s.fsm = .xfer .dselR → v = s.ctrl &&& ~~~(csEnMask s.params) →
    run 2 s = .next { s with
      fsm := .xfer .done, ctrl := v, sel := false, xfer := { s.xfer with t := s.ctrl }
      trace := s.trace ++ [.regRead .ctrl (regAddr s.params .ctrl) s.ctrl, .regWrite .ctrl (regAddr s.params .ctrl) v] } ∧
    (s.params.layout = {} → v = s.ctrl &&& ~~~(0x1 : Word))

/-- R29, R151, R152 on the bits of CTRL, under an accepted configuration and an index that fits: SELECT asserts CS_EN and names
the slave, DESELECT deasserts it and keeps the index, and both keep READY. -/
def Obligations.SelectLineBits : Prop :=
  ∀ (p : Params) (cs : BitVec 3) (old sel desel : Word), p.wf = true → cs.toNat < 2 ^ p.csW →
    sel = selectValue p cs old → desel = rmwValue sel (csEnMask p) 0 →
    sel.getLsbD p.layout.csEn = true ∧ (sel &&& csMask p) = fieldImg p.layout.cs cs.toNat ∧
      sel.getLsbD p.layout.ready = old.getLsbD p.layout.ready ∧
      desel.getLsbD p.layout.csEn = false ∧ (desel &&& csMask p) = fieldImg p.layout.cs cs.toNat ∧
      desel.getLsbD p.layout.ready = old.getLsbD p.layout.ready

/-! ### Setup, claim, release -/

/-- R221: SETUP on a free bus makes its three writes in order, clears SEL and sets INIT; on a claimed bus it is BUSY. -/
def Obligations.SetupResult : Prop :=
  ∀ s : State, decode 0x00000001 = .ok .setup ∧ exec .setup s = .next (
    if s.claimed = true then refusedWith 3 false s
    else completedWith 0 0 0
      { s with
        ctrl := readyMask s.params, mask := s.params.maskSetup, dwcfg := s.params.dwcfgSetup, sel := false, init := true
        trace := s.trace ++ [.regWrite .ctrl (regAddr s.params .ctrl) (readyMask s.params),
          .regWrite .mask (regAddr s.params .mask) s.params.maskSetup,
          .regWrite .dwcfg (regAddr s.params .dwcfg) s.params.dwcfgSetup] }) ∧
    (s.params.layout = {} → readyMask s.params = 0x00000002)

/-- R224: the statuses of CLAIM in order, and its effect: one hook signal and the claim. -/
def Obligations.ClaimResult : Prop :=
  ∀ (s : State) (cs : BitVec 3), decode (0x00000002 ||| cs.setWidth 32 <<< 8) = .ok (.claim cs) ∧
    exec (.claim cs) s = .next (
    if s.init = false then refusedWith 7 true s
    else if cs.toNat ∉ s.params.validCs then refusedWith 2 false s
    else if s.claimed = true then refusedWith 3 false s
    else completedWith (cs.setWidth 64) 0 0
      { s with claimed := true, claimedCs := some cs, trace := s.trace ++ [.hook .onClaim] })

/-- R227: the statuses of RELEASE in order, and its effect: one hook signal and the free bus. -/
def Obligations.ReleaseResult : Prop :=
  ∀ s : State, decode 0x00000003 = .ok .release ∧ exec .release s = .next (
    if s.init = false then refusedWith 7 true s
    else if s.claimed = false then refusedWith 5 true s
    else if s.sel = true then refusedWith 6 true s
    else completedWith 0 0 0 { s with claimed := false, claimedCs := none, trace := s.trace ++ [.hook .onRelease] })

/-- R21: only CLAIM sets CLAIMED, and only RELEASE clears it. -/
def Obligations.OnlyClaimClaimsAndReleaseReleases : Prop :=
  ∀ s t : State, step s = .next t →
    (s.claimed = false → t.claimed = true →
      s.fsm = .check ∧ ∃ cs, decode s.cmd = .ok (.claim cs) ∧ t.claimedCs = some cs) ∧
    (s.claimed = true → t.claimed = false → s.fsm = .check ∧ decode s.cmd = .ok .release ∧ t.claimedCs = none)

/-- R22: CUR_CLOCK is written only by a successful SET_SPEED, CUR_MODE only by SET_MODE, and no step reads either: with other
shadows it does the same. -/
def Obligations.ShadowsAreWrittenOnlyBySetters : Prop :=
  ∀ s t : State, step s = .next t →
    (t.curClock ≠ s.curClock → s.fsm = .check ∧ decode s.cmd = .ok .setSpeed ∧ t.r0 = 0) ∧
    (t.curMode ≠ s.curMode → s.fsm = .check ∧ ∃ h l b, decode s.cmd = .ok (.setMode h l b)) ∧
    ∀ x m, ∃ x' m', step { s with curClock := x, curMode := m } = .next { t with curClock := x', curMode := m' }

/-! ### Refusals -/

/-- R244: a status other than OK changes nothing but R[0..3] and, for the contract violations (codes 5 to 8), VIOLATION. An XFER
that is running has not ended. -/
def Obligations.RefusalsMakeNoAccess : Prop :=
  ∀ (i : Instr) (s t : State), exec i s = .next t → t.fsm = .idle → t.r0 ≠ 0 →
    t = refusedWith t.r0 (decide (5 ≤ t.r0.toNat)) s

/-- R25: VIOLATION is set exactly when a command ends with a contract-violation code, and nothing clears it. -/
def Obligations.ViolationIsStickyAndExact : Prop :=
  ∀ s t : State, step s = .next t →
    (t.violation = true ↔ s.violation = true ∨ (s.fsm ≠ .idle ∧ t.fsm = .idle ∧ 5 ≤ t.r0.toNat))

/-- R222: before SETUP the commands that touch the register block or the claim end with NOT_INITIALISED, and the pure commands
do not. -/
def Obligations.NothingRunsBeforeSetup : Prop :=
  ∀ s : State, s.init = false →
    (∀ cs, exec (.claim cs) s = .next (refusedWith 7 true s)) ∧
    exec .release s = .next (refusedWith 7 true s) ∧
    (s.a0.extractLsb' 32 32 = 0 → exec .setSpeed s = .next (refusedWith 7 true s)) ∧
    (∀ h l b, exec (.setMode h l b) s = .next (refusedWith 7 true s)) ∧
    (∀ b e o i, s.a0.extractLsb' 32 32 = 0 → (o = true → s.a1.toNat < 2 ^ s.params.addrW) →
      (i = true → s.a2.toNat < 2 ^ s.params.addrW) → exec (.xfer b e o i) s = .next (refusedWith 7 true s)) ∧
    (∀ i t, (i = .clkCompute ∨ (∃ h l b, i = .modeCompute h l b) ∨ ∃ cs o n, i = .resolve cs o n) →
      exec i s = .next t → t.r0 ≠ 7)

/-- R247: while select is held (on a claimed, initialised bus) SET_SPEED, SET_MODE and RELEASE end with SELECT_HELD, CLAIM and
SETUP with BUSY, and XFER and the pure commands are not refused for it. -/
def Obligations.SelectHeldRefusals : Prop :=
  ∀ s : State, s.init = true → s.claimed = true → s.sel = true →
    (s.a0.extractLsb' 32 32 = 0 → exec .setSpeed s = .next (refusedWith 6 true s)) ∧
    (∀ h l b, exec (.setMode h l b) s = .next (refusedWith 6 true s)) ∧
    exec .release s = .next (refusedWith 6 true s) ∧
    (∀ cs : BitVec 3, cs.toNat ∈ s.params.validCs → exec (.claim cs) s = .next (refusedWith 3 false s)) ∧
    exec .setup s = .next (refusedWith 3 false s) ∧
    (∀ i t, (i = .clkCompute ∨ (∃ h l b, i = .modeCompute h l b) ∨ (∃ cs o n, i = .resolve cs o n) ∨
        ∃ b e o n, i = .xfer b e o n) → exec i s = .next t → t.fsm = .idle → t.r0 ≠ 6 ∧ t.r0 ≠ 3)

/-! ### The transfer engine, state by state -/

/-- R173: the checks of XFER in order; an XFER that passes them enters SEL_R or BODY with its request latched (R170) and has made
no access. -/
def Obligations.XferChecksThenBegins : Prop :=
  ∀ (s : State) (b e o i : Bool), exec (.xfer b e o i) s = .next (
    if s.a0.extractLsb' 32 32 ≠ 0 ∨ (o = true ∧ 2 ^ s.params.addrW ≤ s.a1.toNat) ∨
        (i = true ∧ 2 ^ s.params.addrW ≤ s.a2.toNat) then refusedWith 8 true s
    else if s.init = false then refusedWith 7 true s
    else if s.claimed = false then refusedWith 5 true s
    else { s with
      r1 := 0, r2 := 0, r3 := 0
      fsm := .xfer (if b then .selR else .body)
      xfer := { Xfer.idle with
        endSel := e
        path := pathOf s.params (claimedIndex s) o i
        op := if o then some s.a1.toNat else none
        ip := if i then some s.a2.toNat else none
        rem := ((s.a0.extractLsb' 0 32).toNat : Int)
        left := directBytes s.params (s.a0.extractLsb' 0 32).toNat } })

/-- R171: from each state a transfer goes to one of the states its row names, and makes at most the one access its row names. -/
def Obligations.TransferStatesFollowTheTable : Prop :=
  ∀ (st : XferState) (s t : State), s.fsm = .xfer st → step s = .next t →
    t.fsm ∈ nextStates st ∧ (t.trace = s.trace ∨ ∃ ev, t.trace = s.trace ++ [ev] ∧ accessOf st ev = true)

/-- R177, R178, R179: a word begins with the XFERLEN update, the clear of WC and the write of DOUT, in that order, and then
polling starts with `n = 0`. Everything else is as before. -/
def Obligations.WordLaunchSequence : Prop :=
  ∀ (s : State) (w : Width) (len c : Word), s.params.wf = true → s.fsm = .xfer .pTest → 4 < s.xfer.rem →
    s.xfer.stop = false → (∀ a, s.xfer.op = some a → a < 2 ^ s.params.addrW) → bufferAdmitted s.params s.xfer.op (widthBytes w) →
    w = (if s.xfer.rem ≤ 8 then .one else .two) →
    len = (s.cfg &&& ~~~(xferLenMask s.params)) ||| (if s.xfer.rem ≤ 8 then 0 else xferLenMask s.params) →
    c = causeDraw s s.causeReads →
    Reaches s { s with
      fsm := .xfer .pPoll
      cfg := len
      cause := c &&& ~~~(wcMask s.params)
      causeReads := s.causeReads + 1
      dout := (outWord s.params s.mem s.xfer.op w).setWidth 32
      xfer := { s.xfer with w := w, t := c, n := 0, word := outWord s.params s.mem s.xfer.op w }
      trace := s.trace ++ [.regRead .cfg (regAddr s.params .cfg) s.cfg, .regWrite .cfg (regAddr s.params .cfg) len,
          .regRead .cause (regAddr s.params .cause) c,
          .regWrite .cause (regAddr s.params .cause) (c &&& ~~~(wcMask s.params))] ++
        outReads s.params s.mem s.xfer.op w ++
        [.regWrite .dout (regAddr s.params .dout) ((outWord s.params s.mem s.xfer.op w).setWidth 32)] }

/-- R181: the loop makes at most POLL_BOUND reads of CAUSE and stops at the first that shows WC = 1. -/
def Obligations.PollLoopIsBounded : Prop :=
  ∀ s : State, s.params.wf = true → s.fsm = .xfer .pPoll → s.xfer.n = 0 →
    (∀ q, q < s.params.pollBound → (∀ j, j < q → wcSet s.params (causeDraw s (s.causeReads + j)) = false) →
      wcSet s.params (causeDraw s (s.causeReads + q)) = true →
      ∃ t, run (q + 1) s = .next t ∧ t.fsm = .xfer (if s.xfer.ip.isSome then .pInR else .pAdv) ∧
        t.causeReads = s.causeReads + q + 1 ∧ t.trace.length = s.trace.length + q + 1) ∧
    ((∀ j, j < s.params.pollBound → wcSet s.params (causeDraw s (s.causeReads + j)) = false) →
      ∃ t, run s.params.pollBound s = .next t ∧ t.fsm = .xfer .pTmo ∧
        t.causeReads = s.causeReads + s.params.pollBound ∧ t.trace.length = s.trace.length + s.params.pollBound)

/-- R182: from the poll that shows WC = 1 to the next P_TEST. Without an input buffer DIN is not read; with one, DIN is read once
and its low byte or halfword is stored. Each present cursor advances by the width; `rem` and `words` move once. -/
def Obligations.CompletedWordAdvances : Prop :=
  ∀ (s : State) (k : Nat), s.params.wf = true → memWf s.mem = true → k = widthBytes s.xfer.w → s.fsm = .xfer .pPoll →
    wcSet s.params (causeDraw s s.causeReads) = true →
    (s.xfer.ip = none → ∃ t, Reaches s t ∧ t.fsm = .xfer .pTest ∧ t.dinReads = s.dinReads ∧ t.mem = s.mem ∧
      t.causeReads = s.causeReads + 1 ∧ t.trace.length = s.trace.length + 1 ∧
      t.xfer.rem = s.xfer.rem - 8 * (k : Int) ∧ t.xfer.words = s.xfer.words + 1 ∧ t.xfer.tmo = s.xfer.tmo ∧
      t.xfer.op = s.xfer.op.map (fun a => (a + k) % 2 ^ s.params.addrW) ∧ t.xfer.ip = none) ∧
    (∀ b, s.xfer.ip = some b → b < 2 ^ s.params.addrW → 1 < 2 ^ s.params.addrW → bufferAdmitted s.params (some b) k →
      ∃ t, Reaches s t ∧ t.fsm = .xfer .pTest ∧ t.dinReads = s.dinReads + 1 ∧ t.din = dinDraw s s.dinReads ∧
        t.causeReads = s.causeReads + 1 ∧ t.trace.length = s.trace.length + 2 + k ∧
        t.xfer.rem = s.xfer.rem - 8 * (k : Int) ∧ t.xfer.words = s.xfer.words + 1 ∧ t.xfer.tmo = s.xfer.tmo ∧
        t.xfer.op = s.xfer.op.map (fun a => (a + k) % 2 ^ s.params.addrW) ∧
        t.xfer.ip = some ((b + k) % 2 ^ s.params.addrW) ∧
        memGet t.mem b = (dinDraw s s.dinReads).extractLsb' 0 8 ∧
        (s.xfer.w = .two → memGet t.mem ((b + 1) % 2 ^ s.params.addrW) = (dinDraw s s.dinReads).extractLsb' 8 8) ∧
        (∀ a, a ≠ b → (s.xfer.w = .two → a ≠ (b + 1) % 2 ^ s.params.addrW) → memGet t.mem a = memGet s.mem a))

/-- R183: a timeout adds one event to DIAG and one to each count, moves no cursor and no bit count, and under ABORT stops the
loop with WORD_TIMEOUT. -/
def Obligations.TimeoutIsRecorded : Prop :=
  ∀ (s : State) (cs : BitVec 3), s.params.wf = true → s.fsm = .xfer .pTmo → s.claimedCs = some cs →
    step s = .next { s with
      fsm := .xfer .pTest
      diag := s.diag ++ [.wordTimeout s.xfer.rem (widthBytes s.xfer.w) cs]
      timeoutTotal := s.timeoutTotal + 1
      xfer := { s.xfer with
        tmo := s.xfer.tmo + 1
        status := if s.params.timeoutPolicy = .abort then .wordTimeout else s.xfer.status
        stop := if s.params.timeoutPolicy = .abort then true else s.xfer.stop } }

/-- R24: TIMEOUT_TOTAL (modulo 2^32) and DIAG move together, by one, at every word timeout and nowhere else. -/
def Obligations.TimeoutsAreCountedOnlyByTimeouts : Prop :=
  ∀ s t : State, step s = .next t →
    (s.fsm ≠ .xfer .pTmo → t.timeoutTotal = s.timeoutTotal ∧ t.diag = s.diag) ∧
    (s.fsm = .xfer .pTmo → t.timeoutTotal = s.timeoutTotal + 1 ∧
      t.diag = s.diag ++ [.wordTimeout s.xfer.rem (widthBytes s.xfer.w) (claimedIndex s)])

/-- R195: XFER never writes MASK, DWCFG, CUR_CLOCK, CUR_MODE, CLAIMED, CLAIMED_CS or INIT, writes CFG outside XFERLEN_MASK only
as it is, and never reads DIN on the direct path or without an input buffer. -/
def Obligations.XferNeverTouches : Prop :=
  ∀ (st : XferState) (s t : State), Inv s → s.fsm = .xfer st → step s = .next t →
    t.mask = s.mask ∧ t.dwcfg = s.dwcfg ∧ t.curClock = s.curClock ∧ t.curMode = s.curMode ∧ t.claimed = s.claimed ∧
      t.claimedCs = s.claimedCs ∧ t.init = s.init ∧
      t.cfg &&& ~~~(xferLenMask s.params) = s.cfg &&& ~~~(xferLenMask s.params) ∧
      (t.dinReads ≠ s.dinReads → s.xfer.path = .polled ∧ s.xfer.ip.isSome = true)

/-- The frame of host memory (R182): a transfer stores only in P_IN_B0, at the in cursor, and in P_IN_B1, one above it; every
other byte, and every byte in every other state, is unchanged. -/
def Obligations.XferStoresOnlyAtTheInCursor : Prop :=
  ∀ (st : XferState) (s t : State), s.fsm = .xfer st → step s = .next t →
    ∀ a, (∀ b, s.xfer.ip = some b → st = .pInB0 → a ≠ b) →
      (∀ b, s.xfer.ip = some b → st = .pInB1 → a ≠ (b + 1) % 2 ^ s.params.addrW) → memGet t.mem a = memGet s.mem a

/-- The frame of a transfer (R171, R172, R195): which state may change which register. Everything not named here is kept by every
state of a transfer. -/
def Obligations.TransferFrame : Prop :=
  ∀ (st : XferState) (s t : State), s.fsm = .xfer st → step s = .next t →
    (t.ctrl ≠ s.ctrl ∨ t.sel ≠ s.sel → st = .selW ∨ st = .dselW) ∧
    (t.cfg ≠ s.cfg → st = .pLenW) ∧
    (t.dout ≠ s.dout → st = .pOutW) ∧
    (t.din ≠ s.din ∨ t.dinReads ≠ s.dinReads → st = .pInR) ∧
    (t.cause ≠ s.cause → st = .pClrR ∨ st = .pClrW ∨ st = .pPoll) ∧
    (t.causeReads ≠ s.causeReads → st = .pClrR ∨ st = .pPoll) ∧
    (t.timeoutTotal ≠ s.timeoutTotal ∨ t.diag ≠ s.diag → st = .pTmo) ∧
    (t.r0 ≠ s.r0 ∨ t.r1 ≠ s.r1 ∨ t.r2 ≠ s.r2 ∨ t.r3 ≠ s.r3 ∨ t.violation ≠ s.violation → st = .done) ∧
    (t.mem ≠ s.mem → st = .pInB0 ∨ st = .pInB1) ∧
    t = { s with
      ctrl := t.ctrl, sel := t.sel, cfg := t.cfg, dout := t.dout, din := t.din, dinReads := t.dinReads, cause := t.cause
      causeReads := t.causeReads, timeoutTotal := t.timeoutTotal, diag := t.diag, r0 := t.r0, r1 := t.r1, r2 := t.r2
      r3 := t.r3, violation := t.violation, mem := t.mem, trace := t.trace, fsm := t.fsm, xfer := t.xfer }

/-- R61: a running command has no step exactly when the host-memory byte it accesses next lies outside HOST_MEM, and it is stuck
in no other way. -/
def Obligations.StuckOnlyOutsideHostMemory : Prop :=
  ∀ s : State, s.params.wf = true → s.fsm ≠ .idle →
    (∀ a, accessedByte s = some a → admits s.params a = false → step s = .fault (.stuckHostMem a)) ∧
    ((∀ a, accessedByte s = some a → admits s.params a = true) → ∃ t, step s = .next t)

/-! ### Whole transfers -/

/-- R186: under CONTINUE a word whose POLL_BOUND polls all show WC = 0 is attempted again: the same count, cursors and words, the
same DOUT value, one more timeout. -/
def Obligations.TimedOutWordIsRetried : Prop :=
  ∀ (s : State) (w : Width), s.params.wf = true → s.params.timeoutPolicy = .continues → s.fsm = .xfer .pTest →
    4 < s.xfer.rem → s.xfer.stop = false → (∀ a, s.xfer.op = some a → a < 2 ^ s.params.addrW) →
    w = (if s.xfer.rem ≤ 8 then .one else .two) → bufferAdmitted s.params s.xfer.op (widthBytes w) →
    (∀ j, j < s.params.pollBound → wcSet s.params (causeDraw s (s.causeReads + 1 + j)) = false) →
    ∃ t, Reaches s t ∧ t ≠ s ∧ t.fsm = .xfer .pTest ∧ t.xfer.rem = s.xfer.rem ∧ t.xfer.stop = false ∧
      t.xfer.op = s.xfer.op ∧ t.xfer.ip = s.xfer.ip ∧ t.xfer.words = s.xfer.words ∧ t.xfer.tmo = s.xfer.tmo + 1 ∧
      t.mem = s.mem ∧ t.timeoutTotal = s.timeoutTotal + 1 ∧
      doutWrites t = doutWrites s ++ [(outWord s.params s.mem s.xfer.op w).setWidth 32] ∧
      t.causeReads = s.causeReads + 1 + s.params.pollBound

/-- R187: under CONTINUE a word whose polls never show WC = 1 never ends the transfer: as long as no poll of any attempt does, the
machine is in the transfer, with no word completed. The reads of the clear, every `POLL_BOUND + 1` reads from the first on, may
show any WC (R41, R178). -/
def Obligations.NeverCompletingWordHangs : Prop :=
  ∀ (s : State) (n : Nat), s.params.wf = true → s.params.timeoutPolicy = .continues → s.fsm = .xfer .pTest →
    4 < s.xfer.rem → s.xfer.stop = false → (∀ a, s.xfer.op = some a → a < 2 ^ s.params.addrW) →
    bufferAdmitted s.params s.xfer.op (widthBytes (if s.xfer.rem ≤ 8 then .one else .two)) →
    (∀ j, j < n → j % (s.params.pollBound + 1) ≠ 0 → wcSet s.params (causeDraw s (s.causeReads + j)) = false) →
    ∃ t st, run n s = .next t ∧ t.fsm = .xfer st ∧ t.xfer.rem = s.xfer.rem ∧ t.xfer.words = s.xfer.words

/-- R286: what a completed word costs in accesses, `q + 1` polls among them, from one P_TEST to the next. -/
def Obligations.CompletedWordCost : Prop :=
  ∀ (s : State) (w : Width) (q : Nat), s.params.wf = true → s.fsm = .xfer .pTest → 4 < s.xfer.rem → s.xfer.stop = false →
    w = (if s.xfer.rem ≤ 8 then .one else .two) →
    (∀ a, s.xfer.op = some a → a < 2 ^ s.params.addrW) → (∀ a, s.xfer.ip = some a → a < 2 ^ s.params.addrW) →
    bufferAdmitted s.params s.xfer.op (widthBytes w) → bufferAdmitted s.params s.xfer.ip (widthBytes w) →
    attemptCompletes s s.causeReads q →
    ∃ t, Reaches s t ∧ t.fsm = .xfer .pTest ∧ t.xfer.words = s.xfer.words + 1 ∧
      t.xfer.rem = s.xfer.rem - 8 * (widthBytes w : Int) ∧
      t.trace.length = s.trace.length + 2 + 2 + (if s.xfer.op.isSome then widthBytes w else 0) + 1 + (q + 1) +
        (if s.xfer.ip.isSome then 1 + widthBytes w else 0)

/-- R172, R184, R186, R189: DONE ends an XFER with its status, its counts and its path. An accepted polled XFER of `b` bits, each of
whose words completes on some attempt, ends with OK after the number of words of R189 and one timeout for each attempt that failed.
A count of 2^64 or more has no stated value in R[1] or R[2] (log 9). -/
def Obligations.PolledTransferCompletes : Prop :=
  (∀ s : State, s.params.wf = true → s.fsm = .xfer .done → s.xfer.status = .ok ∨ s.xfer.status = .wordTimeout →
    ∃ t, step s = .next t ∧ t.r0 = (if s.xfer.status = .ok then 0 else 4) ∧
      (s.xfer.words < 2 ^ 64 → t.r1.toNat = s.xfer.words) ∧ (s.xfer.tmo < 2 ^ 64 → t.r2.toNat = s.xfer.tmo) ∧
      t.r3 = (if s.xfer.path = .polled then 0 else 1) ∧
      t = { s with fsm := .idle, r0 := t.r0, r1 := t.r1, r2 := t.r2, r3 := t.r3, xfer := Xfer.idle }) ∧
  ∀ (s : State) (bgn nd o i : Bool) (b : Nat) (ws : List (Nat × Nat)), s.params.wf = true → s.init = true → s.claimed = true →
    s.a0.toNat = b → b < 2 ^ 32 → (o = true → s.a1.toNat < 2 ^ s.params.addrW) → (i = true → s.a2.toNat < 2 ^ s.params.addrW) →
    pathOf s.params (claimedIndex s) o i = .polled →
    bufferAdmitted s.params (if o then some s.a1.toNat else none) (polledBytes b) →
    bufferAdmitted s.params (if i then some s.a2.toNat else none) (polledBytes b) →
    ws.length = polledWords b → wordsComplete s s.causeReads ws →
    ∃ u t, exec (.xfer bgn nd o i) s = .next u ∧ Reaches u t ∧ t.fsm = .idle ∧ t.r0 = 0 ∧
      t.r1.toNat = polledWords b ∧ (retries ws < 2 ^ 64 → t.r2.toNat = retries ws) ∧ t.r3 = 0 ∧ t.violation = s.violation ∧
      t.timeoutTotal = s.timeoutTotal + BitVec.ofNat 32 (retries ws) ∧ t.diag.length = s.diag.length + retries ws ∧
      t.sel = (if nd then false else if bgn then true else s.sel) ∧
      t.causeReads = s.causeReads + causeReadsOf s.params ws ∧
      t.dinReads = s.dinReads + (if i then polledWords b else 0)

/-- R63, R179, R186, R189: a polled transfer with an output buffer sends the buffer's bytes, little-endian, a word that times out once
more for each failed attempt. Host memory is left alone without an input buffer; an input buffer must not meet the output buffer. -/
def Obligations.PolledTransferSendsTheBuffer : Prop :=
  ∀ (s : State) (bgn nd i : Bool) (b : Nat) (ws : List (Nat × Nat)), s.params.wf = true → s.init = true → s.claimed = true →
    s.a0.toNat = b → b < 2 ^ 32 → s.a1.toNat < 2 ^ s.params.addrW → (i = true → s.a2.toNat < 2 ^ s.params.addrW) →
    pathOf s.params (claimedIndex s) true i = .polled →
    bufferAdmitted s.params (some s.a1.toNat) (polledBytes b) →
    bufferAdmitted s.params (if i then some s.a2.toNat else none) (polledBytes b) →
    (i = true → ∀ j k, j < polledBytes b → k < polledBytes b →
      addrAdd s.params s.a1.toNat j ≠ addrAdd s.params s.a2.toNat k) →
    ws.length = polledWords b → wordsComplete s s.causeReads ws →
    ∃ u t, exec (.xfer bgn nd true i) s = .next u ∧ Reaches u t ∧ t.fsm = .idle ∧ t.r0 = 0 ∧
      doutWrites t = doutWrites s ++ sentWords s.params s.mem s.a1.toNat b ws ∧ (i = false → t.mem = s.mem)

/-- R63, R182, R185: a polled transfer with an input buffer fills it with the bytes of the DIN draws, little-endian, one draw for each
completed word, and leaves every other byte alone, with or without an output buffer. -/
def Obligations.PolledTransferFillsTheBuffer : Prop :=
  ∀ (s : State) (bgn nd o : Bool) (b : Nat) (ws : List (Nat × Nat)), s.params.wf = true → memWf s.mem = true → s.init = true →
    s.claimed = true → s.a0.toNat = b → b < 2 ^ 32 → (o = true → s.a1.toNat < 2 ^ s.params.addrW) →
    s.a2.toNat < 2 ^ s.params.addrW → polledBytes b ≤ 2 ^ s.params.addrW →
    bufferAdmitted s.params (if o then some s.a1.toNat else none) (polledBytes b) →
    bufferAdmitted s.params (some s.a2.toNat) (polledBytes b) →
    ws.length = polledWords b → wordsComplete s s.causeReads ws →
    ∃ u t, exec (.xfer bgn nd o true) s = .next u ∧ Reaches u t ∧ t.fsm = .idle ∧ t.r0 = 0 ∧
      (∀ j, j < polledBytes b → memGet t.mem ((s.a2.toNat + j) % 2 ^ s.params.addrW) =
        (dinDraw s (s.dinReads + j / 2)).extractLsb' (8 * (j % 2)) 8) ∧
      (∀ a, (∀ j, j < polledBytes b → a ≠ (s.a2.toNat + j) % 2 ^ s.params.addrW) → memGet t.mem a = memGet s.mem a)

/-- The source's round trip (spec/95_test_vectors.md S3; R74 where the buffers coincide): a 16-bit exchange whose DIN draw is the
word just sent leaves the in buffer equal to the out buffer. -/
def Obligations.LoopBackExchangeReturnsTheBytes : Prop :=
  ∀ (s : State) (bgn nd : Bool) (r q : Nat), s.params.wf = true → memWf s.mem = true → s.init = true → s.claimed = true →
    s.a0 = 16 → s.a1.toNat + 1 < 2 ^ s.params.addrW → s.a2.toNat + 1 < 2 ^ s.params.addrW →
    bufferAdmitted s.params (some s.a1.toNat) 2 → bufferAdmitted s.params (some s.a2.toNat) 2 →
    wordsComplete s s.causeReads [(r, q)] →
    (dinDraw s s.dinReads).setWidth 16 = memGet s.mem (s.a1.toNat + 1) ++ memGet s.mem s.a1.toNat →
    ∃ u t, exec (.xfer bgn nd true true) s = .next u ∧ Reaches u t ∧ t.fsm = .idle ∧ t.r0 = 0 ∧ t.r1 = 1 ∧
      memGet t.mem s.a2.toNat = memGet s.mem s.a1.toNat ∧
      memGet t.mem (s.a2.toNat + 1) = memGet s.mem (s.a1.toNat + 1) ∧
      (∀ a, a ≠ s.a2.toNat → a ≠ s.a2.toNat + 1 → memGet t.mem a = memGet s.mem a)

/-- R174: an XFER of at most 4 bits moves no data, on the polled path under any DIRECT_BYTES, on the direct path where DIRECT_BYTES is
0 (as under the default). Its whole trace is the accesses of CTRL that its flags ask for, and nothing but CTRL, SEL, R and the end
of the command changes. -/
def Obligations.TinyTransferMovesNoData : Prop :=
  ∀ (s : State) (bgn nd o i : Bool) (c : Word), s.params.wf = true → s.init = true → s.claimed = true →
    s.a0.toNat ≤ 4 → (o = true → s.a1.toNat < 2 ^ s.params.addrW) → (i = true → s.a2.toNat < 2 ^ s.params.addrW) →
    (pathOf s.params (claimedIndex s) o i ≠ .polled → directBytes s.params s.a0.toNat = 0) →
    c = (if bgn then selectValue s.params (claimedIndex s) s.ctrl else s.ctrl) →
    ∃ u, exec (.xfer bgn nd o i) s = .next u ∧ Reaches u { s with
      fsm := .idle, xfer := Xfer.idle
      r0 := 0, r1 := 0, r2 := 0, r3 := if pathOf s.params (claimedIndex s) o i = .polled then 0 else 1
      ctrl := if nd then c &&& ~~~(csEnMask s.params) else c
      sel := if nd then false else if bgn then true else s.sel
      trace := s.trace ++ selectAccesses s.params bgn s.ctrl c ++
        selectAccesses s.params nd c (c &&& ~~~(csEnMask s.params)) }

/-- R190, R192: a direct XFER streams DIRECT_BYTES bytes to the window's base, as 4-byte words and then bytes, and ends with OK.
These, the byte reads and the select actions are all its accesses. A count of 2^64 or more, which a DIRECT_BYTES without a bound
allows, has no stated value in R[1] (log 9). -/
def Obligations.DirectTransferStreamsTheBuffer : Prop :=
  ∀ (s : State) (bgn nd : Bool) (base size n : Nat), s.params.wf = true → s.init = true → s.claimed = true →
    s.a0.toNat < 2 ^ 32 → s.a1.toNat < 2 ^ s.params.addrW →
    pathOf s.params (claimedIndex s) true false = .direct base size →
    n = directBytes s.params s.a0.toNat → bufferAdmitted s.params (some s.a1.toNat) n →
    ∀ c, c = (if bgn then selectValue s.params (claimedIndex s) s.ctrl else s.ctrl) →
    ∃ u t, exec (.xfer bgn nd true false) s = .next u ∧ Reaches u t ∧ t.fsm = .idle ∧ t.r0 = 0 ∧
      (n / 4 + n % 4 < 2 ^ 64 → t.r1.toNat = n / 4 + n % 4) ∧ t.r2 = 0 ∧ t.r3 = 1 ∧
      windowWrites t = windowWrites s ++ streamedWrites s.params s.mem base s.a1.toNat n ∧
      t.trace = s.trace ++ selectAccesses s.params bgn s.ctrl c ++ streamedAccesses s.params s.mem base s.a1.toNat n ++
        selectAccesses s.params nd c (c &&& ~~~(csEnMask s.params)) ∧
      t.cfg = s.cfg ∧ t.dout = s.dout ∧ t.din = s.din ∧ t.cause = s.cause ∧ t.mask = s.mask ∧ t.dwcfg = s.dwcfg ∧
      t.causeReads = s.causeReads ∧ t.dinReads = s.dinReads ∧ t.mem = s.mem ∧ t.diag = s.diag ∧
      t.timeoutTotal = s.timeoutTotal ∧ t.sel = (if nd then false else if bgn then true else s.sel)

/-- R284: under ABORT every accepted polled XFER ends, whatever the peripheral answers, with OK or WORD_TIMEOUT, within
`ceil(bitlen / 8) + 1` tried words of at most POLL_BOUND polls each. -/
def Obligations.AbortedTransfersAlwaysEnd : Prop :=
  ∀ (s : State) (bgn nd o i : Bool) (b : Nat), s.params.wf = true → s.params.timeoutPolicy = .abort → s.init = true →
    s.claimed = true → s.a0.toNat = b → b < 2 ^ 32 →
    (o = true → s.a1.toNat < 2 ^ s.params.addrW) → (i = true → s.a2.toNat < 2 ^ s.params.addrW) →
    pathOf s.params (claimedIndex s) o i = .polled →
    bufferAdmitted s.params (if o then some s.a1.toNat else none) (polledBytes b) →
    bufferAdmitted s.params (if i then some s.a2.toNat else none) (polledBytes b) →
    ∃ u t, exec (.xfer bgn nd o i) s = .next u ∧ Reaches u t ∧ t.fsm = .idle ∧
      ((t.r0 = 0 ∧ t.r2 = 0) ∨ (t.r0 = 4 ∧ t.r2 = 1)) ∧ t.r3 = 0 ∧ t.violation = s.violation ∧
      t.r1.toNat + t.r2.toNat ≤ (b + 7) / 8 + 1 ∧
      t.causeReads ≤ s.causeReads + (t.r1.toNat + t.r2.toNat) * (s.params.pollBound + 1) ∧
      t.sel = (if nd then false else if bgn then true else s.sel)
end

