-- ==== Sys2Proof/Laws/Decode.lean ====
section
/-! SUPPORT. What the decoder can answer, said once: a word decodes to a command exactly when it matches a row of spec/30_encoding.md R92. -/

namespace Sys2Proof

/-- A word that matches a row has the row's opcode. -/
theorem Opcode.ofField_of_match {w : Word} {op : Opcode} (h : w &&& op.mask = op.matchWord) :
    Opcode.ofField (w.extractLsb' 0 4) = some op := by
  have hw : w.extractLsb' 0 4 = op.matchWord.extractLsb' 0 4 := by
    have hm : op.mask.extractLsb' 0 4 = BitVec.allOnes 4 := by cases op <;> decide
    rw [← h, BitVec.extractLsb'_and, hm, BitVec.and_allOnes]
  rw [hw]
  cases op <;> decide

/-- A word decodes to a command exactly when it matches some row and the command is that row's. -/
theorem decode_ok_iff (w : Word) (i : Instr) :
    decode w = .ok i ↔ ∃ op : Opcode, w &&& op.mask = op.matchWord ∧ op.instr w = i := by
  constructor
  · intro h
    unfold decode at h
    split at h
    · cases h
    · split at h
      · cases h
        exact ⟨_, ‹_›, rfl⟩
      · cases h
  · rintro ⟨op, hm, rfl⟩
    simp [decode, Opcode.ofField_of_match hm, hm]

/-- A reserved opcode spells no command (R97). -/
theorem decode_reserved {w : Word} (h : w.extractLsb' 0 4 = 0#4 ∨ 0xA#4 ≤ w.extractLsb' 0 4) :
    decode w = .error .reservedOpcode := by
  have hn : Opcode.ofField (w.extractLsb' 0 4) = none := by
    generalize w.extractLsb' 0 4 = x at h
    revert x
    decide
  simp [decode, hn]

end Sys2Proof
end

