-- ==== Sys2Proof/Laws/Fields.lean ====
section
/-! SUPPORT. The bits of a field mask and of a read-modify-write, and the arithmetic of the divider (spec/40_clock.md R129). -/

namespace Sys2Proof.Machine

/-- The bits of a mask. -/
theorem getLsbD_fieldMask (pos width k : Nat) (h : pos + width ≤ 32) :
    (fieldMask pos width).getLsbD k = (decide (pos ≤ k) && decide (k < pos + width)) := by
  simp only [fieldMask, BitVec.getLsbD_ofNat, Nat.testBit_mul_two_pow, Nat.testBit_two_pow_sub_one]
  rw [Bool.eq_iff_iff]
  simp
  omega

/-- The bits of an image. -/
theorem getLsbD_fieldImg (pos v k : Nat) :
    (fieldImg pos v).getLsbD k = (decide (k < 32) && (decide (pos ≤ k) && v.testBit (k - pos))) := by
  simp only [fieldImg, BitVec.getLsbD_ofNat, Nat.testBit_mul_two_pow]

/-- The bits a read-modify-write leaves. -/
theorem getLsbD_rmwValue (t clear set : Word) (k : Nat) (hk : k < 32) :
    (rmwValue t clear set).getLsbD k = (t.getLsbD k && !clear.getLsbD k || set.getLsbD k) := by
  simp [rmwValue, hk]

/-- `ceilDiv a b` is the least `q` with `a ≤ q * b` (R129). -/
theorem ceilDiv_le_iff {a b : Nat} (q : Nat) (h : 0 < b) : ceilDiv a b ≤ q ↔ a ≤ q * b := by
  unfold ceilDiv
  rw [← Nat.lt_succ_iff, Nat.div_lt_iff_lt_mul h, Nat.succ_mul]
  omega

/-- `a ≤ ceilDiv a b * b`. -/
theorem le_ceilDiv_mul {a b : Nat} (h : 0 < b) : a ≤ ceilDiv a b * b := (ceilDiv_le_iff _ h).1 (Nat.le_refl _)

/-- `fls x` is the number of binary digits of `x` (spec/40_clock.md R121). -/
theorem fls_le_iff (x n : Nat) : fls x ≤ n ↔ x < 2 ^ n := by
  unfold fls
  split
  · subst_vars
    simp
  · rename_i h
    rw [Nat.succ_le_iff, Nat.log2_lt h]

/-- A number at least `2 ^ n` has more than `n` binary digits. -/
theorem lt_fls_iff (x n : Nat) : n < fls x ↔ 2 ^ n ≤ x := by
  have := fls_le_iff x n
  omega

end Sys2Proof.Machine
end

