-- ==== Sys2Proof/Laws/Memory.lean ====
section
/-! SUPPORT. The laws of host memory: a byte written is read back, every other byte is kept, and the canonical form is kept. -/

namespace Sys2Proof.Machine

/-- A byte below every listed address reads as an unlisted one. -/
theorem memGet_below {m : List Host.Cell} {lo a : Nat} (h : memWfFrom lo m = true) (ha : a < lo) :
    memGet m a = unlistedByte := by
  induction m generalizing lo with
  | nil => rfl
  | cons c m ih =>
    simp only [memWfFrom, Bool.and_eq_true, decide_eq_true_eq] at h
    obtain ⟨⟨hlo, -⟩, hm⟩ := h
    rw [memGet, if_neg (by omega)]
    exact ih hm (by omega)

/-- Writing one byte keeps every other byte, whatever the form of the list. -/
theorem memGet_memPut_of_ne (m : List Host.Cell) {a b : Nat} (v : Byte) (h : b ≠ a) :
    memGet (memPut m a v) b = memGet m b := by
  induction m with
  | nil => by_cases hv : v = unlistedByte <;> simp [memPut, memGet, hv, Ne.symm h]
  | cons c m ih =>
    unfold memPut
    split
    · simp [memGet, ih]
    · split
      · rename_i hc
        have hcb : c.1 ≠ b := fun e => h (e.symm.trans hc)
        split <;> simp [memGet, hcb, Ne.symm h]
      · split <;> simp [memGet, Ne.symm h]

/-- A byte written is read back. -/
theorem memGet_memPut_self {m : List Host.Cell} {lo : Nat} (a : Nat) (v : Byte) (h : memWfFrom lo m = true) :
    memGet (memPut m a v) a = v := by
  induction m generalizing lo with
  | nil => by_cases hv : v = unlistedByte <;> simp [memPut, memGet, hv]
  | cons c m ih =>
    simp only [memWfFrom, Bool.and_eq_true, decide_eq_true_eq] at h
    obtain ⟨-, hm⟩ := h
    unfold memPut
    split
    · rename_i hlt
      rw [memGet, if_neg (by omega)]
      exact ih hm
    · split
      · rename_i hc
        split
        · rename_i hv
          rw [hv]
          exact memGet_below hm (by omega)
        · simp [memGet]
      · split
        · rename_i hv
          rw [hv, memGet, if_neg (by omega)]
          exact memGet_below hm (by omega)
        · simp [memGet]

/-- A write keeps the canonical form above a bound its address respects. -/
theorem memPut_wfFrom {m : List Host.Cell} {lo a : Nat} (v : Byte) (h : memWfFrom lo m = true) (ha : lo ≤ a) :
    memWfFrom lo (memPut m a v) = true := by
  induction m generalizing lo with
  | nil => by_cases hv : v = unlistedByte <;> simp [memPut, memWfFrom, hv, ha]
  | cons c m ih =>
    have h' := h
    simp only [memWfFrom, Bool.and_eq_true, decide_eq_true_eq] at h
    obtain ⟨⟨hlo, hne⟩, hm⟩ := h
    have weaken : ∀ lo', lo' ≤ c.1 + 1 → memWfFrom lo' m = true := by
      intro lo' hl
      cases m with
      | nil => rfl
      | cons d m =>
        simp only [memWfFrom, Bool.and_eq_true, decide_eq_true_eq] at hm ⊢
        exact ⟨⟨by omega, hm.1.2⟩, hm.2⟩
    unfold memPut
    split
    · rename_i hlt
      simp only [memWfFrom, Bool.and_eq_true, decide_eq_true_eq]
      exact ⟨⟨hlo, hne⟩, ih hm (by omega)⟩
    · split
      · rename_i hc
        split
        · exact weaken lo (by omega)
        · rename_i hv
          simp only [memWfFrom, Bool.and_eq_true, decide_eq_true_eq]
          exact ⟨⟨ha, hv⟩, weaken (a + 1) (by omega)⟩
      · split
        · exact h'
        · rename_i hv
          simp only [memWfFrom, Bool.and_eq_true, decide_eq_true_eq]
          exact ⟨⟨ha, hv⟩, ⟨by omega, hne⟩, hm⟩

/-- Every memory write keeps the canonical form. -/
theorem memPut_wf {m : List Host.Cell} (a : Nat) (v : Byte) (h : memWf m = true) : memWf (memPut m a v) = true :=
  memPut_wfFrom v h (Nat.zero_le a)

/-- A byte written is read back from a canonical memory. -/
theorem memGet_memPut {m : List Host.Cell} (a : Nat) (v : Byte) (h : memWf m = true) : memGet (memPut m a v) a = v :=
  memGet_memPut_self a v h

/-- A write lists no address but the one written and those listed before. -/
theorem memPut_mem {m : List Host.Cell} {a : Nat} {v : Byte} {c : Host.Cell} (h : c ∈ memPut m a v) : c.1 = a ∨ c ∈ m := by
  induction m with
  | nil =>
    unfold memPut at h
    split at h
    · simp at h
    · exact .inl (by simp at h; simp [h])
  | cons d m ih =>
    unfold memPut at h
    split at h
    · rcases List.mem_cons.mp h with h | h
      · exact .inr (by simp [h])
      · exact (ih h).imp id (List.mem_cons_of_mem d)
    · split at h
      · split at h
        · exact .inr (List.mem_cons_of_mem d h)
        · rcases List.mem_cons.mp h with h | h
          · exact .inl (by simp [h])
          · exact .inr (List.mem_cons_of_mem d h)
      · split at h
        · exact .inr h
        · rcases List.mem_cons.mp h with h | h
          · exact .inl (by simp [h])
          · exact .inr h

end Sys2Proof.Machine
end

