-- ==== Sys2Proof/Laws/State.lean ====
section
/-! SUPPORT. One lemma per field of State per update, true by rfl, so that no later proof unfolds a record update. A register access is
rewritten, register by register, to the record it makes (`regWrite_ctrl`, `regRead_cause`, ...). -/

namespace Sys2Proof.Machine

@[simp] theorem emit_params (e : Event) (s : State) : (emit e s).params = s.params := rfl
@[simp] theorem emit_init (e : Event) (s : State) : (emit e s).init = s.init := rfl
@[simp] theorem emit_claimed (e : Event) (s : State) : (emit e s).claimed = s.claimed := rfl
@[simp] theorem emit_claimedCs (e : Event) (s : State) : (emit e s).claimedCs = s.claimedCs := rfl
@[simp] theorem emit_sel (e : Event) (s : State) : (emit e s).sel = s.sel := rfl
@[simp] theorem emit_curClock (e : Event) (s : State) : (emit e s).curClock = s.curClock := rfl
@[simp] theorem emit_curMode (e : Event) (s : State) : (emit e s).curMode = s.curMode := rfl
@[simp] theorem emit_timeoutTotal (e : Event) (s : State) : (emit e s).timeoutTotal = s.timeoutTotal := rfl
@[simp] theorem emit_violation (e : Event) (s : State) : (emit e s).violation = s.violation := rfl
@[simp] theorem emit_diag (e : Event) (s : State) : (emit e s).diag = s.diag := rfl
@[simp] theorem emit_fsm (e : Event) (s : State) : (emit e s).fsm = s.fsm := rfl
@[simp] theorem emit_a0 (e : Event) (s : State) : (emit e s).a0 = s.a0 := rfl
@[simp] theorem emit_a1 (e : Event) (s : State) : (emit e s).a1 = s.a1 := rfl
@[simp] theorem emit_a2 (e : Event) (s : State) : (emit e s).a2 = s.a2 := rfl
@[simp] theorem emit_cmd (e : Event) (s : State) : (emit e s).cmd = s.cmd := rfl
@[simp] theorem emit_r0 (e : Event) (s : State) : (emit e s).r0 = s.r0 := rfl
@[simp] theorem emit_r1 (e : Event) (s : State) : (emit e s).r1 = s.r1 := rfl
@[simp] theorem emit_r2 (e : Event) (s : State) : (emit e s).r2 = s.r2 := rfl
@[simp] theorem emit_r3 (e : Event) (s : State) : (emit e s).r3 = s.r3 := rfl
@[simp] theorem emit_ctrl (e : Event) (s : State) : (emit e s).ctrl = s.ctrl := rfl
@[simp] theorem emit_cfg (e : Event) (s : State) : (emit e s).cfg = s.cfg := rfl
@[simp] theorem emit_dout (e : Event) (s : State) : (emit e s).dout = s.dout := rfl
@[simp] theorem emit_din (e : Event) (s : State) : (emit e s).din = s.din := rfl
@[simp] theorem emit_cause (e : Event) (s : State) : (emit e s).cause = s.cause := rfl
@[simp] theorem emit_mask (e : Event) (s : State) : (emit e s).mask = s.mask := rfl
@[simp] theorem emit_dwcfg (e : Event) (s : State) : (emit e s).dwcfg = s.dwcfg := rfl
@[simp] theorem emit_mem (e : Event) (s : State) : (emit e s).mem = s.mem := rfl
@[simp] theorem emit_trace (e : Event) (s : State) : (emit e s).trace = s.trace ++ [e] := rfl
@[simp] theorem emit_xfer (e : Event) (s : State) : (emit e s).xfer = s.xfer := rfl
@[simp] theorem emit_causeScript (e : Event) (s : State) : (emit e s).causeScript = s.causeScript := rfl
@[simp] theorem emit_dinScript (e : Event) (s : State) : (emit e s).dinScript = s.dinScript := rfl
@[simp] theorem emit_causeReads (e : Event) (s : State) : (emit e s).causeReads = s.causeReads := rfl
@[simp] theorem emit_dinReads (e : Event) (s : State) : (emit e s).dinReads = s.dinReads := rfl
@[simp] theorem emit_host (e : Event) (s : State) : (emit e s).host = s.host := rfl

@[simp] theorem beginCommand_params (s : State) : (beginCommand s).params = s.params := rfl
@[simp] theorem beginCommand_init (s : State) : (beginCommand s).init = s.init := rfl
@[simp] theorem beginCommand_claimed (s : State) : (beginCommand s).claimed = s.claimed := rfl
@[simp] theorem beginCommand_claimedCs (s : State) : (beginCommand s).claimedCs = s.claimedCs := rfl
@[simp] theorem beginCommand_sel (s : State) : (beginCommand s).sel = s.sel := rfl
@[simp] theorem beginCommand_curClock (s : State) : (beginCommand s).curClock = s.curClock := rfl
@[simp] theorem beginCommand_curMode (s : State) : (beginCommand s).curMode = s.curMode := rfl
@[simp] theorem beginCommand_timeoutTotal (s : State) : (beginCommand s).timeoutTotal = s.timeoutTotal := rfl
@[simp] theorem beginCommand_violation (s : State) : (beginCommand s).violation = s.violation := rfl
@[simp] theorem beginCommand_diag (s : State) : (beginCommand s).diag = s.diag := rfl
@[simp] theorem beginCommand_fsm (s : State) : (beginCommand s).fsm = s.fsm := rfl
@[simp] theorem beginCommand_a0 (s : State) : (beginCommand s).a0 = s.a0 := rfl
@[simp] theorem beginCommand_a1 (s : State) : (beginCommand s).a1 = s.a1 := rfl
@[simp] theorem beginCommand_a2 (s : State) : (beginCommand s).a2 = s.a2 := rfl
@[simp] theorem beginCommand_cmd (s : State) : (beginCommand s).cmd = s.cmd := rfl
@[simp] theorem beginCommand_r0 (s : State) : (beginCommand s).r0 = s.r0 := rfl
@[simp] theorem beginCommand_r1 (s : State) : (beginCommand s).r1 = 0 := rfl
@[simp] theorem beginCommand_r2 (s : State) : (beginCommand s).r2 = 0 := rfl
@[simp] theorem beginCommand_r3 (s : State) : (beginCommand s).r3 = 0 := rfl
@[simp] theorem beginCommand_ctrl (s : State) : (beginCommand s).ctrl = s.ctrl := rfl
@[simp] theorem beginCommand_cfg (s : State) : (beginCommand s).cfg = s.cfg := rfl
@[simp] theorem beginCommand_dout (s : State) : (beginCommand s).dout = s.dout := rfl
@[simp] theorem beginCommand_din (s : State) : (beginCommand s).din = s.din := rfl
@[simp] theorem beginCommand_cause (s : State) : (beginCommand s).cause = s.cause := rfl
@[simp] theorem beginCommand_mask (s : State) : (beginCommand s).mask = s.mask := rfl
@[simp] theorem beginCommand_dwcfg (s : State) : (beginCommand s).dwcfg = s.dwcfg := rfl
@[simp] theorem beginCommand_mem (s : State) : (beginCommand s).mem = s.mem := rfl
@[simp] theorem beginCommand_trace (s : State) : (beginCommand s).trace = s.trace := rfl
@[simp] theorem beginCommand_xfer (s : State) : (beginCommand s).xfer = s.xfer := rfl
@[simp] theorem beginCommand_causeScript (s : State) : (beginCommand s).causeScript = s.causeScript := rfl
@[simp] theorem beginCommand_dinScript (s : State) : (beginCommand s).dinScript = s.dinScript := rfl
@[simp] theorem beginCommand_causeReads (s : State) : (beginCommand s).causeReads = s.causeReads := rfl
@[simp] theorem beginCommand_dinReads (s : State) : (beginCommand s).dinReads = s.dinReads := rfl
@[simp] theorem beginCommand_host (s : State) : (beginCommand s).host = s.host := rfl

@[simp] theorem endCommand_params (st : Status) (s : State) : (endCommand st s).params = s.params := rfl
@[simp] theorem endCommand_init (st : Status) (s : State) : (endCommand st s).init = s.init := rfl
@[simp] theorem endCommand_claimed (st : Status) (s : State) : (endCommand st s).claimed = s.claimed := rfl
@[simp] theorem endCommand_claimedCs (st : Status) (s : State) : (endCommand st s).claimedCs = s.claimedCs := rfl
@[simp] theorem endCommand_sel (st : Status) (s : State) : (endCommand st s).sel = s.sel := rfl
@[simp] theorem endCommand_curClock (st : Status) (s : State) : (endCommand st s).curClock = s.curClock := rfl
@[simp] theorem endCommand_curMode (st : Status) (s : State) : (endCommand st s).curMode = s.curMode := rfl
@[simp] theorem endCommand_timeoutTotal (st : Status) (s : State) : (endCommand st s).timeoutTotal = s.timeoutTotal := rfl
@[simp] theorem endCommand_violation (st : Status) (s : State) : (endCommand st s).violation = (s.violation || isViolation st) := rfl
@[simp] theorem endCommand_diag (st : Status) (s : State) : (endCommand st s).diag = s.diag := rfl
@[simp] theorem endCommand_fsm (st : Status) (s : State) : (endCommand st s).fsm = .idle := rfl
@[simp] theorem endCommand_a0 (st : Status) (s : State) : (endCommand st s).a0 = s.a0 := rfl
@[simp] theorem endCommand_a1 (st : Status) (s : State) : (endCommand st s).a1 = s.a1 := rfl
@[simp] theorem endCommand_a2 (st : Status) (s : State) : (endCommand st s).a2 = s.a2 := rfl
@[simp] theorem endCommand_cmd (st : Status) (s : State) : (endCommand st s).cmd = s.cmd := rfl
@[simp] theorem endCommand_r0 (st : Status) (s : State) : (endCommand st s).r0 = statusCode st := rfl
@[simp] theorem endCommand_r1 (st : Status) (s : State) : (endCommand st s).r1 = s.r1 := rfl
@[simp] theorem endCommand_r2 (st : Status) (s : State) : (endCommand st s).r2 = s.r2 := rfl
@[simp] theorem endCommand_r3 (st : Status) (s : State) : (endCommand st s).r3 = s.r3 := rfl
@[simp] theorem endCommand_ctrl (st : Status) (s : State) : (endCommand st s).ctrl = s.ctrl := rfl
@[simp] theorem endCommand_cfg (st : Status) (s : State) : (endCommand st s).cfg = s.cfg := rfl
@[simp] theorem endCommand_dout (st : Status) (s : State) : (endCommand st s).dout = s.dout := rfl
@[simp] theorem endCommand_din (st : Status) (s : State) : (endCommand st s).din = s.din := rfl
@[simp] theorem endCommand_cause (st : Status) (s : State) : (endCommand st s).cause = s.cause := rfl
@[simp] theorem endCommand_mask (st : Status) (s : State) : (endCommand st s).mask = s.mask := rfl
@[simp] theorem endCommand_dwcfg (st : Status) (s : State) : (endCommand st s).dwcfg = s.dwcfg := rfl
@[simp] theorem endCommand_mem (st : Status) (s : State) : (endCommand st s).mem = s.mem := rfl
@[simp] theorem endCommand_trace (st : Status) (s : State) : (endCommand st s).trace = s.trace := rfl
@[simp] theorem endCommand_xfer (st : Status) (s : State) : (endCommand st s).xfer = Xfer.idle := rfl
@[simp] theorem endCommand_causeScript (st : Status) (s : State) : (endCommand st s).causeScript = s.causeScript := rfl
@[simp] theorem endCommand_dinScript (st : Status) (s : State) : (endCommand st s).dinScript = s.dinScript := rfl
@[simp] theorem endCommand_causeReads (st : Status) (s : State) : (endCommand st s).causeReads = s.causeReads := rfl
@[simp] theorem endCommand_dinReads (st : Status) (s : State) : (endCommand st s).dinReads = s.dinReads := rfl
@[simp] theorem endCommand_host (st : Status) (s : State) : (endCommand st s).host = s.host := rfl

@[simp] theorem setResults_params (v1 v2 v3 : DWord) (s : State) : (setResults v1 v2 v3 s).params = s.params := rfl
@[simp] theorem setResults_init (v1 v2 v3 : DWord) (s : State) : (setResults v1 v2 v3 s).init = s.init := rfl
@[simp] theorem setResults_claimed (v1 v2 v3 : DWord) (s : State) : (setResults v1 v2 v3 s).claimed = s.claimed := rfl
@[simp] theorem setResults_claimedCs (v1 v2 v3 : DWord) (s : State) : (setResults v1 v2 v3 s).claimedCs = s.claimedCs := rfl
@[simp] theorem setResults_sel (v1 v2 v3 : DWord) (s : State) : (setResults v1 v2 v3 s).sel = s.sel := rfl
@[simp] theorem setResults_curClock (v1 v2 v3 : DWord) (s : State) : (setResults v1 v2 v3 s).curClock = s.curClock := rfl
@[simp] theorem setResults_curMode (v1 v2 v3 : DWord) (s : State) : (setResults v1 v2 v3 s).curMode = s.curMode := rfl
@[simp] theorem setResults_timeoutTotal (v1 v2 v3 : DWord) (s : State) : (setResults v1 v2 v3 s).timeoutTotal = s.timeoutTotal := rfl
@[simp] theorem setResults_violation (v1 v2 v3 : DWord) (s : State) : (setResults v1 v2 v3 s).violation = s.violation := rfl
@[simp] theorem setResults_diag (v1 v2 v3 : DWord) (s : State) : (setResults v1 v2 v3 s).diag = s.diag := rfl
@[simp] theorem setResults_fsm (v1 v2 v3 : DWord) (s : State) : (setResults v1 v2 v3 s).fsm = s.fsm := rfl
@[simp] theorem setResults_a0 (v1 v2 v3 : DWord) (s : State) : (setResults v1 v2 v3 s).a0 = s.a0 := rfl
@[simp] theorem setResults_a1 (v1 v2 v3 : DWord) (s : State) : (setResults v1 v2 v3 s).a1 = s.a1 := rfl
@[simp] theorem setResults_a2 (v1 v2 v3 : DWord) (s : State) : (setResults v1 v2 v3 s).a2 = s.a2 := rfl
@[simp] theorem setResults_cmd (v1 v2 v3 : DWord) (s : State) : (setResults v1 v2 v3 s).cmd = s.cmd := rfl
@[simp] theorem setResults_r0 (v1 v2 v3 : DWord) (s : State) : (setResults v1 v2 v3 s).r0 = s.r0 := rfl
@[simp] theorem setResults_r1 (v1 v2 v3 : DWord) (s : State) : (setResults v1 v2 v3 s).r1 = v1 := rfl
@[simp] theorem setResults_r2 (v1 v2 v3 : DWord) (s : State) : (setResults v1 v2 v3 s).r2 = v2 := rfl
@[simp] theorem setResults_r3 (v1 v2 v3 : DWord) (s : State) : (setResults v1 v2 v3 s).r3 = v3 := rfl
@[simp] theorem setResults_ctrl (v1 v2 v3 : DWord) (s : State) : (setResults v1 v2 v3 s).ctrl = s.ctrl := rfl
@[simp] theorem setResults_cfg (v1 v2 v3 : DWord) (s : State) : (setResults v1 v2 v3 s).cfg = s.cfg := rfl
@[simp] theorem setResults_dout (v1 v2 v3 : DWord) (s : State) : (setResults v1 v2 v3 s).dout = s.dout := rfl
@[simp] theorem setResults_din (v1 v2 v3 : DWord) (s : State) : (setResults v1 v2 v3 s).din = s.din := rfl
@[simp] theorem setResults_cause (v1 v2 v3 : DWord) (s : State) : (setResults v1 v2 v3 s).cause = s.cause := rfl
@[simp] theorem setResults_mask (v1 v2 v3 : DWord) (s : State) : (setResults v1 v2 v3 s).mask = s.mask := rfl
@[simp] theorem setResults_dwcfg (v1 v2 v3 : DWord) (s : State) : (setResults v1 v2 v3 s).dwcfg = s.dwcfg := rfl
@[simp] theorem setResults_mem (v1 v2 v3 : DWord) (s : State) : (setResults v1 v2 v3 s).mem = s.mem := rfl
@[simp] theorem setResults_trace (v1 v2 v3 : DWord) (s : State) : (setResults v1 v2 v3 s).trace = s.trace := rfl
@[simp] theorem setResults_xfer (v1 v2 v3 : DWord) (s : State) : (setResults v1 v2 v3 s).xfer = s.xfer := rfl
@[simp] theorem setResults_causeScript (v1 v2 v3 : DWord) (s : State) : (setResults v1 v2 v3 s).causeScript = s.causeScript := rfl
@[simp] theorem setResults_dinScript (v1 v2 v3 : DWord) (s : State) : (setResults v1 v2 v3 s).dinScript = s.dinScript := rfl
@[simp] theorem setResults_causeReads (v1 v2 v3 : DWord) (s : State) : (setResults v1 v2 v3 s).causeReads = s.causeReads := rfl
@[simp] theorem setResults_dinReads (v1 v2 v3 : DWord) (s : State) : (setResults v1 v2 v3 s).dinReads = s.dinReads := rfl
@[simp] theorem setResults_host (v1 v2 v3 : DWord) (s : State) : (setResults v1 v2 v3 s).host = s.host := rfl

@[simp] theorem logTimeout_params (rem : Int) (w : Nat) (s : State) : (logTimeout rem w s).params = s.params := rfl
@[simp] theorem logTimeout_init (rem : Int) (w : Nat) (s : State) : (logTimeout rem w s).init = s.init := rfl
@[simp] theorem logTimeout_claimed (rem : Int) (w : Nat) (s : State) : (logTimeout rem w s).claimed = s.claimed := rfl
@[simp] theorem logTimeout_claimedCs (rem : Int) (w : Nat) (s : State) : (logTimeout rem w s).claimedCs = s.claimedCs := rfl
@[simp] theorem logTimeout_sel (rem : Int) (w : Nat) (s : State) : (logTimeout rem w s).sel = s.sel := rfl
@[simp] theorem logTimeout_curClock (rem : Int) (w : Nat) (s : State) : (logTimeout rem w s).curClock = s.curClock := rfl
@[simp] theorem logTimeout_curMode (rem : Int) (w : Nat) (s : State) : (logTimeout rem w s).curMode = s.curMode := rfl
@[simp] theorem logTimeout_timeoutTotal (rem : Int) (w : Nat) (s : State) : (logTimeout rem w s).timeoutTotal = s.timeoutTotal + 1 := rfl
@[simp] theorem logTimeout_violation (rem : Int) (w : Nat) (s : State) : (logTimeout rem w s).violation = s.violation := rfl
@[simp] theorem logTimeout_diag (rem : Int) (w : Nat) (s : State) : (logTimeout rem w s).diag = s.diag ++ [.wordTimeout rem w (claimedIndex s)] := rfl
@[simp] theorem logTimeout_fsm (rem : Int) (w : Nat) (s : State) : (logTimeout rem w s).fsm = s.fsm := rfl
@[simp] theorem logTimeout_a0 (rem : Int) (w : Nat) (s : State) : (logTimeout rem w s).a0 = s.a0 := rfl
@[simp] theorem logTimeout_a1 (rem : Int) (w : Nat) (s : State) : (logTimeout rem w s).a1 = s.a1 := rfl
@[simp] theorem logTimeout_a2 (rem : Int) (w : Nat) (s : State) : (logTimeout rem w s).a2 = s.a2 := rfl
@[simp] theorem logTimeout_cmd (rem : Int) (w : Nat) (s : State) : (logTimeout rem w s).cmd = s.cmd := rfl
@[simp] theorem logTimeout_r0 (rem : Int) (w : Nat) (s : State) : (logTimeout rem w s).r0 = s.r0 := rfl
@[simp] theorem logTimeout_r1 (rem : Int) (w : Nat) (s : State) : (logTimeout rem w s).r1 = s.r1 := rfl
@[simp] theorem logTimeout_r2 (rem : Int) (w : Nat) (s : State) : (logTimeout rem w s).r2 = s.r2 := rfl
@[simp] theorem logTimeout_r3 (rem : Int) (w : Nat) (s : State) : (logTimeout rem w s).r3 = s.r3 := rfl
@[simp] theorem logTimeout_ctrl (rem : Int) (w : Nat) (s : State) : (logTimeout rem w s).ctrl = s.ctrl := rfl
@[simp] theorem logTimeout_cfg (rem : Int) (w : Nat) (s : State) : (logTimeout rem w s).cfg = s.cfg := rfl
@[simp] theorem logTimeout_dout (rem : Int) (w : Nat) (s : State) : (logTimeout rem w s).dout = s.dout := rfl
@[simp] theorem logTimeout_din (rem : Int) (w : Nat) (s : State) : (logTimeout rem w s).din = s.din := rfl
@[simp] theorem logTimeout_cause (rem : Int) (w : Nat) (s : State) : (logTimeout rem w s).cause = s.cause := rfl
@[simp] theorem logTimeout_mask (rem : Int) (w : Nat) (s : State) : (logTimeout rem w s).mask = s.mask := rfl
@[simp] theorem logTimeout_dwcfg (rem : Int) (w : Nat) (s : State) : (logTimeout rem w s).dwcfg = s.dwcfg := rfl
@[simp] theorem logTimeout_mem (rem : Int) (w : Nat) (s : State) : (logTimeout rem w s).mem = s.mem := rfl
@[simp] theorem logTimeout_trace (rem : Int) (w : Nat) (s : State) : (logTimeout rem w s).trace = s.trace := rfl
@[simp] theorem logTimeout_xfer (rem : Int) (w : Nat) (s : State) : (logTimeout rem w s).xfer = s.xfer := rfl
@[simp] theorem logTimeout_causeScript (rem : Int) (w : Nat) (s : State) : (logTimeout rem w s).causeScript = s.causeScript := rfl
@[simp] theorem logTimeout_dinScript (rem : Int) (w : Nat) (s : State) : (logTimeout rem w s).dinScript = s.dinScript := rfl
@[simp] theorem logTimeout_causeReads (rem : Int) (w : Nat) (s : State) : (logTimeout rem w s).causeReads = s.causeReads := rfl
@[simp] theorem logTimeout_dinReads (rem : Int) (w : Nat) (s : State) : (logTimeout rem w s).dinReads = s.dinReads := rfl
@[simp] theorem logTimeout_host (rem : Int) (w : Nat) (s : State) : (logTimeout rem w s).host = s.host := rfl

@[simp] theorem goTo_params (st : XferState) (s : State) : (goTo st s).params = s.params := rfl
@[simp] theorem goTo_init (st : XferState) (s : State) : (goTo st s).init = s.init := rfl
@[simp] theorem goTo_claimed (st : XferState) (s : State) : (goTo st s).claimed = s.claimed := rfl
@[simp] theorem goTo_claimedCs (st : XferState) (s : State) : (goTo st s).claimedCs = s.claimedCs := rfl
@[simp] theorem goTo_sel (st : XferState) (s : State) : (goTo st s).sel = s.sel := rfl
@[simp] theorem goTo_curClock (st : XferState) (s : State) : (goTo st s).curClock = s.curClock := rfl
@[simp] theorem goTo_curMode (st : XferState) (s : State) : (goTo st s).curMode = s.curMode := rfl
@[simp] theorem goTo_timeoutTotal (st : XferState) (s : State) : (goTo st s).timeoutTotal = s.timeoutTotal := rfl
@[simp] theorem goTo_violation (st : XferState) (s : State) : (goTo st s).violation = s.violation := rfl
@[simp] theorem goTo_diag (st : XferState) (s : State) : (goTo st s).diag = s.diag := rfl
@[simp] theorem goTo_fsm (st : XferState) (s : State) : (goTo st s).fsm = .xfer st := rfl
@[simp] theorem goTo_a0 (st : XferState) (s : State) : (goTo st s).a0 = s.a0 := rfl
@[simp] theorem goTo_a1 (st : XferState) (s : State) : (goTo st s).a1 = s.a1 := rfl
@[simp] theorem goTo_a2 (st : XferState) (s : State) : (goTo st s).a2 = s.a2 := rfl
@[simp] theorem goTo_cmd (st : XferState) (s : State) : (goTo st s).cmd = s.cmd := rfl
@[simp] theorem goTo_r0 (st : XferState) (s : State) : (goTo st s).r0 = s.r0 := rfl
@[simp] theorem goTo_r1 (st : XferState) (s : State) : (goTo st s).r1 = s.r1 := rfl
@[simp] theorem goTo_r2 (st : XferState) (s : State) : (goTo st s).r2 = s.r2 := rfl
@[simp] theorem goTo_r3 (st : XferState) (s : State) : (goTo st s).r3 = s.r3 := rfl
@[simp] theorem goTo_ctrl (st : XferState) (s : State) : (goTo st s).ctrl = s.ctrl := rfl
@[simp] theorem goTo_cfg (st : XferState) (s : State) : (goTo st s).cfg = s.cfg := rfl
@[simp] theorem goTo_dout (st : XferState) (s : State) : (goTo st s).dout = s.dout := rfl
@[simp] theorem goTo_din (st : XferState) (s : State) : (goTo st s).din = s.din := rfl
@[simp] theorem goTo_cause (st : XferState) (s : State) : (goTo st s).cause = s.cause := rfl
@[simp] theorem goTo_mask (st : XferState) (s : State) : (goTo st s).mask = s.mask := rfl
@[simp] theorem goTo_dwcfg (st : XferState) (s : State) : (goTo st s).dwcfg = s.dwcfg := rfl
@[simp] theorem goTo_mem (st : XferState) (s : State) : (goTo st s).mem = s.mem := rfl
@[simp] theorem goTo_trace (st : XferState) (s : State) : (goTo st s).trace = s.trace := rfl
@[simp] theorem goTo_xfer (st : XferState) (s : State) : (goTo st s).xfer = s.xfer := rfl
@[simp] theorem goTo_causeScript (st : XferState) (s : State) : (goTo st s).causeScript = s.causeScript := rfl
@[simp] theorem goTo_dinScript (st : XferState) (s : State) : (goTo st s).dinScript = s.dinScript := rfl
@[simp] theorem goTo_causeReads (st : XferState) (s : State) : (goTo st s).causeReads = s.causeReads := rfl
@[simp] theorem goTo_dinReads (st : XferState) (s : State) : (goTo st s).dinReads = s.dinReads := rfl
@[simp] theorem goTo_host (st : XferState) (s : State) : (goTo st s).host = s.host := rfl

@[simp] theorem goWith_params (st : XferState) (x : Xfer) (s : State) : (goWith st x s).params = s.params := rfl
@[simp] theorem goWith_init (st : XferState) (x : Xfer) (s : State) : (goWith st x s).init = s.init := rfl
@[simp] theorem goWith_claimed (st : XferState) (x : Xfer) (s : State) : (goWith st x s).claimed = s.claimed := rfl
@[simp] theorem goWith_claimedCs (st : XferState) (x : Xfer) (s : State) : (goWith st x s).claimedCs = s.claimedCs := rfl
@[simp] theorem goWith_sel (st : XferState) (x : Xfer) (s : State) : (goWith st x s).sel = s.sel := rfl
@[simp] theorem goWith_curClock (st : XferState) (x : Xfer) (s : State) : (goWith st x s).curClock = s.curClock := rfl
@[simp] theorem goWith_curMode (st : XferState) (x : Xfer) (s : State) : (goWith st x s).curMode = s.curMode := rfl
@[simp] theorem goWith_timeoutTotal (st : XferState) (x : Xfer) (s : State) : (goWith st x s).timeoutTotal = s.timeoutTotal := rfl
@[simp] theorem goWith_violation (st : XferState) (x : Xfer) (s : State) : (goWith st x s).violation = s.violation := rfl
@[simp] theorem goWith_diag (st : XferState) (x : Xfer) (s : State) : (goWith st x s).diag = s.diag := rfl
@[simp] theorem goWith_fsm (st : XferState) (x : Xfer) (s : State) : (goWith st x s).fsm = .xfer st := rfl
@[simp] theorem goWith_a0 (st : XferState) (x : Xfer) (s : State) : (goWith st x s).a0 = s.a0 := rfl
@[simp] theorem goWith_a1 (st : XferState) (x : Xfer) (s : State) : (goWith st x s).a1 = s.a1 := rfl
@[simp] theorem goWith_a2 (st : XferState) (x : Xfer) (s : State) : (goWith st x s).a2 = s.a2 := rfl
@[simp] theorem goWith_cmd (st : XferState) (x : Xfer) (s : State) : (goWith st x s).cmd = s.cmd := rfl
@[simp] theorem goWith_r0 (st : XferState) (x : Xfer) (s : State) : (goWith st x s).r0 = s.r0 := rfl
@[simp] theorem goWith_r1 (st : XferState) (x : Xfer) (s : State) : (goWith st x s).r1 = s.r1 := rfl
@[simp] theorem goWith_r2 (st : XferState) (x : Xfer) (s : State) : (goWith st x s).r2 = s.r2 := rfl
@[simp] theorem goWith_r3 (st : XferState) (x : Xfer) (s : State) : (goWith st x s).r3 = s.r3 := rfl
@[simp] theorem goWith_ctrl (st : XferState) (x : Xfer) (s : State) : (goWith st x s).ctrl = s.ctrl := rfl
@[simp] theorem goWith_cfg (st : XferState) (x : Xfer) (s : State) : (goWith st x s).cfg = s.cfg := rfl
@[simp] theorem goWith_dout (st : XferState) (x : Xfer) (s : State) : (goWith st x s).dout = s.dout := rfl
@[simp] theorem goWith_din (st : XferState) (x : Xfer) (s : State) : (goWith st x s).din = s.din := rfl
@[simp] theorem goWith_cause (st : XferState) (x : Xfer) (s : State) : (goWith st x s).cause = s.cause := rfl
@[simp] theorem goWith_mask (st : XferState) (x : Xfer) (s : State) : (goWith st x s).mask = s.mask := rfl
@[simp] theorem goWith_dwcfg (st : XferState) (x : Xfer) (s : State) : (goWith st x s).dwcfg = s.dwcfg := rfl
@[simp] theorem goWith_mem (st : XferState) (x : Xfer) (s : State) : (goWith st x s).mem = s.mem := rfl
@[simp] theorem goWith_trace (st : XferState) (x : Xfer) (s : State) : (goWith st x s).trace = s.trace := rfl
@[simp] theorem goWith_xfer (st : XferState) (x : Xfer) (s : State) : (goWith st x s).xfer = x := rfl
@[simp] theorem goWith_causeScript (st : XferState) (x : Xfer) (s : State) : (goWith st x s).causeScript = s.causeScript := rfl
@[simp] theorem goWith_dinScript (st : XferState) (x : Xfer) (s : State) : (goWith st x s).dinScript = s.dinScript := rfl
@[simp] theorem goWith_causeReads (st : XferState) (x : Xfer) (s : State) : (goWith st x s).causeReads = s.causeReads := rfl
@[simp] theorem goWith_dinReads (st : XferState) (x : Xfer) (s : State) : (goWith st x s).dinReads = s.dinReads := rfl
@[simp] theorem goWith_host (st : XferState) (x : Xfer) (s : State) : (goWith st x s).host = s.host := rfl

@[simp] theorem regWrite_ctrl (v : Word) (s : State) :
    regWrite .ctrl v s = emit (.regWrite .ctrl (regAddr s.params .ctrl) v) { s with ctrl := v } := rfl
@[simp] theorem regWrite_cfg (v : Word) (s : State) :
    regWrite .cfg v s = emit (.regWrite .cfg (regAddr s.params .cfg) v) { s with cfg := v } := rfl
@[simp] theorem regWrite_dout (v : Word) (s : State) :
    regWrite .dout v s = emit (.regWrite .dout (regAddr s.params .dout) v) { s with dout := v } := rfl
@[simp] theorem regWrite_din (v : Word) (s : State) :
    regWrite .din v s = emit (.regWrite .din (regAddr s.params .din) v) { s with din := v } := rfl
@[simp] theorem regWrite_cause (v : Word) (s : State) :
    regWrite .cause v s = emit (.regWrite .cause (regAddr s.params .cause) v) { s with cause := v } := rfl
@[simp] theorem regWrite_mask (v : Word) (s : State) :
    regWrite .mask v s = emit (.regWrite .mask (regAddr s.params .mask) v) { s with mask := v } := rfl
@[simp] theorem regWrite_dwcfg (v : Word) (s : State) :
    regWrite .dwcfg v s = emit (.regWrite .dwcfg (regAddr s.params .dwcfg) v) { s with dwcfg := v } := rfl
@[simp] theorem regRead_ctrl (s : State) :
    regRead .ctrl s = emit (.regRead .ctrl (regAddr s.params .ctrl) (regPeek .ctrl s)) s := rfl
@[simp] theorem regRead_cfg (s : State) :
    regRead .cfg s = emit (.regRead .cfg (regAddr s.params .cfg) (regPeek .cfg s)) s := rfl
@[simp] theorem regRead_dout (s : State) :
    regRead .dout s = emit (.regRead .dout (regAddr s.params .dout) (regPeek .dout s)) s := rfl
@[simp] theorem regRead_din (s : State) :
    regRead .din s = emit (.regRead .din (regAddr s.params .din) (regPeek .din s)) { s with din := dinDraw s s.dinReads, dinReads := s.dinReads + 1 } := rfl
@[simp] theorem regRead_cause (s : State) :
    regRead .cause s = emit (.regRead .cause (regAddr s.params .cause) (regPeek .cause s)) { s with cause := causeDraw s s.causeReads, causeReads := s.causeReads + 1 } := rfl
@[simp] theorem regRead_mask (s : State) :
    regRead .mask s = emit (.regRead .mask (regAddr s.params .mask) (regPeek .mask s)) s := rfl
@[simp] theorem regRead_dwcfg (s : State) :
    regRead .dwcfg s = emit (.regRead .dwcfg (regAddr s.params .dwcfg) (regPeek .dwcfg s)) s := rfl
@[simp] theorem regPeek_ctrl (s : State) : regPeek .ctrl s = s.ctrl := rfl
@[simp] theorem regPeek_cfg (s : State) : regPeek .cfg s = s.cfg := rfl
@[simp] theorem regPeek_dout (s : State) : regPeek .dout s = s.dout := rfl
@[simp] theorem regPeek_din (s : State) : regPeek .din s = dinDraw s s.dinReads := rfl
@[simp] theorem regPeek_cause (s : State) : regPeek .cause s = causeDraw s s.causeReads := rfl
@[simp] theorem regPeek_mask (s : State) : regPeek .mask s = s.mask := rfl
@[simp] theorem regPeek_dwcfg (s : State) : regPeek .dwcfg s = s.dwcfg := rfl
@[simp] theorem regSet_ctrl (v : Word) (s : State) : regSet .ctrl v s = { s with ctrl := v } := rfl
@[simp] theorem regSet_cfg (v : Word) (s : State) : regSet .cfg v s = { s with cfg := v } := rfl
@[simp] theorem regSet_dout (v : Word) (s : State) : regSet .dout v s = { s with dout := v } := rfl
@[simp] theorem regSet_din (v : Word) (s : State) : regSet .din v s = { s with din := v } := rfl
@[simp] theorem regSet_cause (v : Word) (s : State) : regSet .cause v s = { s with cause := v } := rfl
@[simp] theorem regSet_mask (v : Word) (s : State) : regSet .mask v s = { s with mask := v } := rfl
@[simp] theorem regSet_dwcfg (v : Word) (s : State) : regSet .dwcfg v s = { s with dwcfg := v } := rfl
@[simp] theorem winWrite_eq (a n : Nat) (v : Word) (s : State) : winWrite a n v s = emit (.winWrite a n v) s := rfl
@[simp] theorem hook_eq (e : HookEvent) (s : State) : hook e s = emit (.hook e) s := rfl

/-- What the launch of a machine leaves to the parameters. -/
@[simp] theorem launch_params (p : Params) : (State.launch p).params = p := rfl
@[simp] theorem launch_ctrl (p : Params) : (State.launch p).ctrl = p.ctrlInit := rfl
@[simp] theorem launch_cfg (p : Params) : (State.launch p).cfg = p.cfgInit := rfl

end Sys2Proof.Machine
end

