-- ==== Sys2Proof/Laws/Ops.lean ====
section
/-! SUPPORT. One lemma per shared operation that says everything it can do. -/

namespace Sys2Proof.Machine

/-- A read-modify-write of CFG: two accesses, and CFG alone changes (spec/00_scope.md R12). -/
theorem rmw_cfg (clear set : Word) (s : State) :
    rmw .cfg clear set s = { s with
      cfg := rmwValue s.cfg clear set
      trace := s.trace ++ [.regRead .cfg (regAddr s.params .cfg) s.cfg,
        .regWrite .cfg (regAddr s.params .cfg) (rmwValue s.cfg clear set)] } := by
  simp [rmw, emit]

/-- A byte read that answers a next state was admitted, and its continuation got the byte and the event. -/
theorem memLoad_next {a : Nat} {s t : State} {k : Byte → State → Host.Outcome State Fault Refusal}
    (h : memLoad a s k = .next t) :
    admits s.params a = true ∧ k (memGet s.mem a) (emit (.memRead a (memGet s.mem a)) s) = .next t := by
  unfold memLoad at h
  split at h
  · exact ⟨‹_›, h⟩
  · cases h

/-- A byte read whose continuation never faults faults only outside `HOST_MEM` (spec/20_memory.md R61). -/
theorem memLoad_fault {a : Nat} {s : State} {f : Fault} {k : Byte → State → Host.Outcome State Fault Refusal}
    (hk : ∀ b u, k b u ≠ .fault f) (h : memLoad a s k = .fault f) : f = .stuckHostMem a ∧ admits s.params a = false := by
  unfold memLoad at h
  split at h
  · exact absurd h (hk _ _)
  · rename_i hn
    cases h
    exact ⟨rfl, by simpa using hn⟩

/-- A byte read inside `HOST_MEM`. -/
theorem memLoad_admitted {a : Nat} {s : State} {k : Byte → State → Host.Outcome State Fault Refusal}
    (h : admits s.params a = true) :
    memLoad a s k = k (memGet s.mem a) (emit (.memRead a (memGet s.mem a)) s) := by
  simp [memLoad, h]

/-- A byte write that answers a next state was admitted, and its continuation got the written memory and the event. -/
theorem memStore_next {a : Nat} {v : Byte} {s t : State} {k : State → Host.Outcome State Fault Refusal}
    (h : memStore a v s k = .next t) :
    admits s.params a = true ∧ k (emit (.memWrite a v) { s with mem := memPut s.mem a v }) = .next t := by
  unfold memStore at h
  split at h
  · exact ⟨‹_›, h⟩
  · cases h

/-- A byte write whose continuation never faults faults only outside `HOST_MEM` (R61). -/
theorem memStore_fault {a : Nat} {v : Byte} {s : State} {f : Fault} {k : State → Host.Outcome State Fault Refusal}
    (hk : ∀ u, k u ≠ .fault f) (h : memStore a v s k = .fault f) : f = .stuckHostMem a ∧ admits s.params a = false := by
  unfold memStore at h
  split at h
  · exact absurd h (hk _)
  · rename_i hn
    cases h
    exact ⟨rfl, by simpa using hn⟩

/-- A byte write inside `HOST_MEM`. -/
theorem memStore_admitted {a : Nat} {v : Byte} {s : State} {k : State → Host.Outcome State Fault Refusal}
    (h : admits s.params a = true) :
    memStore a v s k = k (emit (.memWrite a v) { s with mem := memPut s.mem a v }) := by
  simp [memStore, h]

/-- A number operand is good exactly when its high half is 0 (spec/30_encoding.md R94). -/
theorem numberOk_iff (a : DWord) : numberOk a = true ↔ a.extractLsb' 32 32 = 0 := by simp [numberOk]

/-- A number operand is good exactly when it is below `2^32` (R94). -/
theorem numberOk_iff_lt (a : DWord) : numberOk a = true ↔ a.toNat < 2 ^ 32 := by
  rw [numberOk_iff, ← BitVec.toNat_inj, BitVec.extractLsb'_toNat, Nat.shiftRight_eq_div_pow]
  have := a.isLt
  simp only [BitVec.ofNat_eq_ofNat, BitVec.toNat_ofNat]
  omega

/-- The value of a number operand is its low half. -/
theorem numberVal_eq (a : DWord) : numberVal a = (a.extractLsb' 0 32).toNat := by simp [numberVal]

/-- The value of a good number operand is the whole register. -/
theorem numberVal_of_lt {a : DWord} (h : a.toNat < 2 ^ 32) : numberVal a = a.toNat := by
  simp only [numberVal, BitVec.toNat_setWidth]
  exact Nat.mod_eq_of_lt h

/-- An address operand is good exactly when it is absent or below `2^ADDR_W` (R94). -/
theorem addressOk_iff (p : Params) (present : Bool) (a : DWord) :
    addressOk p present a = true ↔ (present = true → a.toNat < 2 ^ p.addrW) := by
  cases present <;> simp [addressOk]

/-- Address sums reduce once (spec/43_transfer.md R179). -/
theorem addrAdd_addrAdd (p : Params) (a j k : Nat) : addrAdd p (addrAdd p a j) k = addrAdd p a (j + k) := by
  simp [addrAdd, Nat.add_assoc]

/-- An address is its own sum with 0. -/
theorem addrAdd_zero {p : Params} {a : Nat} (h : a < 2 ^ p.addrW) : addrAdd p a 0 = a := by
  simp [addrAdd, Nat.mod_eq_of_lt h]

/-- A sum of addresses is an address. -/
theorem addrAdd_lt (p : Params) (a k : Nat) : addrAdd p a k < 2 ^ p.addrW := Nat.mod_lt _ (Nat.two_pow_pos _)

/-- `zext_64` of a number that fits. -/
theorem toNat_zext64Nat {n : Nat} (h : n < 2 ^ 64) : (zext64Nat n).toNat = n := by
  simp only [zext64Nat, h, if_true, BitVec.toNat_ofNat, Nat.mod_eq_of_lt]

/-- `zext_64` of 0. -/
@[simp] theorem zext64Nat_zero : zext64Nat 0 = 0 := rfl

end Sys2Proof.Machine
end

