-- ==== Sys2Proof/Laws/Step.lean ====
section
/-! SUPPORT. What a step can do, said once: which of the three agents acts, and what every state of a transfer keeps. -/

namespace Sys2Proof.Machine

/-- A step that answers a next state is a host move, a command word refused, a command, or a state of a transfer. -/
theorem step_cases {s t : State} (h : step s = .next t) :
    s.params.wf = true ∧
      ((s.fsm = .idle ∧ hostStep s = .next t) ∨
       (s.fsm = .check ∧ (∃ e, decode s.cmd = .error e) ∧ t = reservedCommand s) ∨
       (s.fsm = .check ∧ ∃ i, decode s.cmd = .ok i ∧ exec i s = .next t) ∨
       ∃ st, s.fsm = .xfer st ∧ xferStep st s = .next t) := by
  unfold step at h
  split at h
  · rename_i hwf
    refine ⟨hwf, ?_⟩
    split at h
    · exact .inl ⟨‹_›, h⟩
    · split at h
      · exact .inr (.inr (.inl ⟨‹_›, _, ‹_›, h⟩))
      · exact .inr (.inl ⟨‹_›, ⟨_, ‹_›⟩, by cases h; rfl⟩)
    · exact .inr (.inr (.inr ⟨_, ‹_›, h⟩))
  · cases h

/-- In a state of a transfer, under an accepted configuration, a step is that state's step. -/
theorem step_xfer {s : State} {st : XferState} (hwf : s.params.wf = true) (h : s.fsm = .xfer st) :
    step s = xferStep st s := by
  simp [step, hwf, h]

/-- In CHECK, under an accepted configuration, a step is the action of the command (spec/30_encoding.md R96). -/
theorem step_check {s : State} {i : Instr} (hwf : s.params.wf = true) (h : s.fsm = .check) (hi : decode s.cmd = .ok i) :
    step s = exec i s := by
  simp [step, hwf, h, hi]

/-- No steps. -/
@[simp] theorem run_zero (s : State) : run 0 s = .next s := rfl

/-- One step, then the rest. -/
theorem run_succ {s t : State} (n : Nat) (h : step s = .next t) : run (n + 1) s = run n t := by simp [run, h]

/-- Runs compose. -/
theorem run_add {s t : State} {m : Nat} (n : Nat) (h : run m s = .next t) : run (m + n) s = run n t := by
  induction m generalizing s with
  | zero => cases h; simp
  | succ m ih =>
    rw [Nat.succ_add]
    cases hs : step s with
    | next u => simp only [run, hs] at h ⊢; exact ih h
    | fault f => simp [run, hs] at h
    | refused r => simp [run, hs] at h

/-- The model's runs are those of the host's interface. -/
theorem run_eq_core_run (n : Nat) (s : State) : run n s = Host.Core.run Sys2Proof.core n s := by
  induction n generalizing s with
  | zero => rfl
  | succ n ih =>
    have hc : Host.Core.step Sys2Proof.core s = step s := rfl
    cases hs : step s with
    | next u => simp only [run, Host.Core.run, hc, hs]; exact ih u
    | fault f => simp only [run, Host.Core.run, hc, hs]; rfl
    | refused r => simp only [run, Host.Core.run, hc, hs]; rfl

/-- A state reaches itself. -/
theorem Reaches.refl (s : State) : Reaches s s := ⟨0, rfl⟩

/-- Reaching composes. -/
theorem Reaches.trans {s t u : State} (h : Reaches s t) (k : Reaches t u) : Reaches s u := by
  obtain ⟨m, hm⟩ := h
  obtain ⟨n, hn⟩ := k
  exact ⟨m + n, by rw [run_add n hm, hn]⟩

/-- One step is reaching. -/
theorem Reaches.step {s t : State} (h : Machine.step s = .next t) : Reaches s t := ⟨1, by simp [run, h]⟩

/-- No words: no timeouts. -/
@[simp] theorem retries_nil : retries [] = 0 := rfl

/-- The timeouts of a first word and of the rest. -/
@[simp] theorem retries_cons (w : Nat × Nat) (ws : List (Nat × Nat)) : retries (w :: ws) = w.1 + retries ws := by
  simp [retries]

/-- No words: no reads of CAUSE. -/
@[simp] theorem causeReadsOf_nil (p : Params) : causeReadsOf p [] = 0 := rfl

/-- The reads of CAUSE for a first word and for the rest. -/
@[simp] theorem causeReadsOf_cons (p : Params) (w : Nat × Nat) (ws : List (Nat × Nat)) :
    causeReadsOf p (w :: ws) = w.1 * (p.pollBound + 1) + w.2 + 2 + causeReadsOf p ws := by
  simp [causeReadsOf]

/-- When words complete depends on the configuration and the draws of CAUSE alone. -/
theorem wordsComplete_congr {s t : State} (hp : t.params = s.params) (hc : t.causeScript = s.causeScript) (k : Nat)
    (ws : List (Nat × Nat)) : wordsComplete t k ws ↔ wordsComplete s k ws := by
  induction ws generalizing k with
  | nil => exact Iff.rfl
  | cons w ws ih => simp [wordsComplete, attemptFails, attemptCompletes, causeDraw, hp, hc, ih]

end Sys2Proof.Machine
end

