-- ==== Sys2Proof/Laws/Invariant.lean ====
section
/-! SUPPORT. How `Inv` is carried: it depends on few fields, a command's end re-establishes it, and an admitted byte is an `ADDR_W`-bit
address. -/

namespace Sys2Proof.Machine

/-- An admitted address has `ADDR_W` bits under an accepted configuration. -/
theorem admits_lt {p : Params} {a : Nat} (h : p.wf = true) (ha : admits p a = true) : a < 2 ^ p.addrW := by
  simp only [Params.wf, Params.hostMemOk, Bool.and_eq_true, List.all_eq_true, decide_eq_true_eq] at h
  simp only [admits, List.any_eq_true, Bool.and_eq_true, decide_eq_true_eq] at ha
  obtain ⟨r, hr, -, h2⟩ := ha
  have := h.2 r hr
  omega

/-- An accepted configuration polls at least once (spec/00_scope.md R10). -/
theorem pollBound_pos {p : Params} (h : p.wf = true) : 0 < p.pollBound := by
  simp only [Params.wf, Params.pollBoundOk, Bool.and_eq_true, decide_eq_true_eq] at h
  omega

/-- A byte written at an `ADDR_W`-bit address keeps memory to such addresses. -/
theorem memPut_addr {m : List Host.Cell} {n a : Nat} {v : Byte} (h : ∀ b w, (b, w) ∈ m → b < n) (ha : a < n) :
    ∀ b w, (b, w) ∈ memPut m a v → b < n := by
  intro b w hc
  rcases memPut_mem hc with h' | h'
  · have : b = a := h'
    omega
  · exact h b w h'

/-- The fields `CoreInv` depends on. -/
theorem CoreInv.congr {s t : State} (h : CoreInv s) (h1 : t.params = s.params) (h2 : t.mem = s.mem)
    (h3 : t.claimed = s.claimed) (h4 : t.sel = s.sel) (h5 : t.claimedCs = s.claimedCs) (h6 : t.init = s.init)
    (h7 : t.timeoutTotal = s.timeoutTotal) (h8 : t.diag = s.diag) (h9 : t.r0 = s.r0)
    (h10 : t.violation = s.violation) : CoreInv t := by
  obtain ⟨_, _, _, _, _, _, _, _, _, _⟩ := h
  constructor <;> simp only [h1, h2, h3, h4, h5, h6, h7, h8, h9, h10] <;> assumption

/-- The fields `XferInv` depends on. -/
theorem XferInv.congr {s t : State} (h : XferInv s) (h0 : t.fsm = s.fsm) (h1 : t.params = s.params)
    (h2 : t.xfer = s.xfer) (h3 : t.claimed = s.claimed) (h4 : t.ctrl = s.ctrl) (h5 : t.cfg = s.cfg) : XferInv t := by
  obtain ⟨_, _, _, _, _, _, _, _, _, _, _, _, _⟩ := h
  constructor <;> simp only [h0, h1, h2, h3, h4, h5] <;> assumption

/-- Outside a transfer `XferInv` depends on the parameters and the working values alone. -/
theorem XferInv.congr_outside {s t : State} (h : XferInv s) (h0 : ∀ st, t.fsm ≠ .xfer st) (h1 : t.params = s.params)
    (h2 : t.xfer = s.xfer) : XferInv t := by
  obtain ⟨_, _, _, _, h6, h7, h8, _, _, _, _, h12, h13⟩ := h
  constructor
  case out_cursor => rw [h1, h2]; exact h6
  case in_cursor => rw [h1, h2]; exact h7
  case direct_buffers => rw [h2]; exact h8
  case xfer_status => rw [h1, h2]; exact h12
  case xfer_stop => rw [h2]; exact h13
  all_goals simp [h0]

/-- A status number is at most 8 (spec/60_exceptions.md R241). -/
theorem statusCode_le (st : Status) : (statusCode st).toNat ≤ 8 := by cases st <;> decide

/-- The contract-violation codes are 5 to 8 (R243). -/
theorem isViolation_of_le {st : Status} : 5 ≤ (statusCode st).toNat → isViolation st = true := by cases st <;> decide

/-- The end of a command re-establishes `Inv` where the rest of the machine keeps its part. -/
theorem endCommand_inv (st : Status) {s : State} (h1 : s.params.wf = true) (h2 : memWf s.mem = true)
    (h3 : ∀ a v, (a, v) ∈ s.mem → a < 2 ^ s.params.addrW) (h4 : s.claimed = false → s.sel = false)
    (h5 : s.claimed = false → s.claimedCs = none)
    (h6 : s.claimed = true → ∃ cs, s.claimedCs = some cs ∧ cs.toNat ∈ s.params.validCs)
    (h7 : s.claimed = true → s.init = true) (h8 : s.timeoutTotal = BitVec.ofNat 32 s.diag.length) :
    Inv (endCommand st s) := by
  refine ⟨?_, ?_⟩
  · constructor <;> (try assumption)
    · exact statusCode_le st
    · intro h
      simp [isViolation_of_le (st := st) h]
  · constructor <;> simp [Xfer.idle]

end Sys2Proof.Machine
end

