-- ==== Sys2Proof/Laws/PerInstr.lean ====
section
/-! SUPPORT. Said of every command, one lemma per constructor. `EncodesInItsRow`: a command's word has its row's opcode and fixed bits, and its
reserved bits 31:14 are 0 (spec/30_encoding.md R90, R92). -/

namespace Sys2Proof.Laws.EncodesInItsRow

/-- The word of a command matches the command's row and no reserved bit is set. -/
def Statement (i : Instr) : Prop :=
  encode i &&& i.opcode.mask = i.opcode.matchWord ∧ (encode i).extractLsb' 14 18 = 0

theorem setup : Statement .setup := by
  unfold Statement
  decide
theorem claim (cs : BitVec 3) : Statement (.claim cs) := by
  revert cs
  unfold Statement
  decide
theorem release : Statement .release := by
  unfold Statement
  decide
theorem clkCompute : Statement .clkCompute := by
  unfold Statement
  decide
theorem setSpeed : Statement .setSpeed := by
  unfold Statement
  decide
theorem modeCompute (cpha cpol lsb : Bool) : Statement (.modeCompute cpha cpol lsb) := by
  revert cpha cpol lsb
  unfold Statement
  decide
theorem setMode (cpha cpol lsb : Bool) : Statement (.setMode cpha cpol lsb) := by
  revert cpha cpol lsb
  unfold Statement
  decide
theorem resolve (cs : BitVec 3) (hasOut hasIn : Bool) : Statement (.resolve cs hasOut hasIn) := by
  revert cs hasOut hasIn
  unfold Statement
  decide
theorem xfer (beginSel endSel hasOut hasIn : Bool) : Statement (.xfer beginSel endSel hasOut hasIn) := by
  revert beginSel endSel hasOut hasIn
  unfold Statement
  decide

end Sys2Proof.Laws.EncodesInItsRow
end

