-- ==== Sys2Proof/Tests/Slice0.lean ====
section
/-! SUPPORT. Tests of one step or one function, with expected values from spec/95_test_vectors.md ("TV"), and one witness per
statement of Sys2Proof/Certificates/Slice0/Obligations.lean that has hypotheses: a state and operands that meet all of them. -/

namespace Sys2Proof.Tests

open Sys2Proof Sys2Proof.Machine

/-! ### Helpers -/

/-- The next state, if there is one. -/
def nextOf (o : Host.Outcome State Fault Refusal) : Option State :=
  match o with
  | .next t => some t
  | _ => none

/-- R[0] to R[3] after a command. -/
def results (o : Host.Outcome State Fault Refusal) : Option (Nat × Nat × Nat × Nat) :=
  (nextOf o).map fun t => (t.r0.toNat, t.r1.toNat, t.r2.toNat, t.r3.toNat)

/-- A launch with a window on chip select 1, two polls and the common values else. -/
def pWin : Params := { Params.common with pollBound := 2, windows := [⟨1, 0xE0000000, 0x00100000⟩] }

/-- That launch under ABORT. -/
def pAbort : Params := { pWin with timeoutPolicy := .abort }

/-- A launch whose host memory leaves out the addresses above 0xFFFF. -/
def pSmall : Params := { pWin with hostMem := [⟨0, 0x10000⟩] }

/-- Set up and claimed on `cs`, with operands, at the check of a command. -/
def claimedAt (p : Params) (cs : BitVec 3) (a0 a1 a2 : DWord) : State :=
  { State.launch p with
    init := true, claimed := true, claimedCs := some cs, ctrl := 2, fsm := .check, a0 := a0, a1 := a1, a2 := a2
    mem := [(0x1000, 0xAB), (0x1001, 0xCD)] }

/-- Set up and free, at the check of a command. -/
def freeAt (p : Params) (a0 a1 : DWord) : State :=
  { State.launch p with init := true, ctrl := 2, fsm := .check, a0 := a0, a1 := a1 }

/-- In a state of a polled transfer of 16 bits with both buffers; the draws: the clear, a miss, a hit, then misses. -/
def polledAt (p : Params) (st : XferState) : State :=
  { claimedAt p 0 16 0x1000 0x2000 with
    fsm := .xfer st, causeScript := [0, 0, 1, 0, 0], dinScript := [0xCDAB]
    xfer := { Xfer.idle with op := some 0x1000, ip := some 0x2000, rem := 16, w := .two } }

/-- In a state of a direct transfer on chip select 1. -/
def directAt (p : Params) (st : XferState) : State :=
  { claimedAt p 1 40 0x1000 0 with
    fsm := .xfer st
    xfer := { Xfer.idle with path := .direct 0xE0000000 0x00100000, op := some 0x1000, left := 5 } }

/-! ### The configuration check (R10, R31; D7; logs 1 and 10): each check refuses a term that breaks it -/

theorem test_wf_common : Params.common.wf = true := by decide
theorem test_wf_window : pWin.wf = true ∧ pAbort.wf = true ∧ pSmall.wf = true := by decide
theorem test_wf_validCs : { pWin with validCs := [1, 8] }.validCsOk = false := by decide
theorem test_wf_window_empty : { pWin with windows := [⟨1, 0, 0⟩] }.windowsOk = false := by decide
theorem test_wf_window_unaligned : { pWin with windows := [⟨1, 2, 4⟩] }.windowsOk = false := by decide
theorem test_wf_window_past_end : { pWin with windows := [⟨1, 0xFFFFFFFC, 8⟩] }.windowsOk = false := by decide
theorem test_wf_window_cs : { pWin with windows := [⟨5, 0, 4⟩] }.windowsValidCs = false := by decide
theorem test_wf_pollBound : { pWin with pollBound := 0 }.pollBoundOk = false := by decide
theorem test_wf_direct : { pWin with directTable := [(16, 3)] }.directOk = false := by decide
theorem test_wf_offset_unaligned : { pWin with offsets := { cfg := 0x06 } }.offsetsOk = false := by decide
theorem test_wf_offset_twice : { pWin with offsets := { cfg := 0x08 } }.offsetsOk = false := by decide
theorem test_wf_field_fits : { pWin with layout := { wc := 32 } }.fieldsFit = false := by decide
theorem test_wf_ctrl_fields : { pWin with layout := { ready := 0 } }.ctrlFieldsDisjoint = false := by decide
theorem test_wf_cfg_fields : { pWin with layout := { cpol := 5 } }.cfgFieldsDisjoint = false := by decide
theorem test_wf_cfg_adrlen : { pWin with layout := { xferLen := 9 } }.cfgFieldsDisjoint = false := by decide
theorem test_wf_addrW : { pWin with addrW := 65 }.addrWOk = false := by decide
theorem test_wf_hostMem : { pWin with hostMem := [⟨1, 2 ^ 32⟩] }.hostMemOk = false := by decide

/-! ### Decoding: words written out from R92, bit 31 first, and the refusals of TV 2.6 -/

theorem test_decode_setup : decode 0b00000000000000000000000000000001#32 = .ok .setup := by decide
theorem test_decode_claim : decode 0b00000000000000000000010100000010#32 = .ok (.claim 5) := by decide
theorem test_decode_release : decode 0b00000000000000000000000000000011#32 = .ok .release := by decide
theorem test_decode_clkCompute : decode 0b00000000000000000000000000000100#32 = .ok .clkCompute := by decide
theorem test_decode_setSpeed : decode 0b00000000000000000000000000000101#32 = .ok .setSpeed := by decide
theorem test_decode_modeCompute :
    decode 0b00000000000000000010100000000110#32 = .ok (.modeCompute true false true) := by decide
theorem test_decode_setMode : decode 0b00000000000000000001100000000111#32 = .ok (.setMode true true false) := by decide
theorem test_decode_resolve : decode 0b00000000000000000000000101001000#32 = .ok (.resolve 1 true false) := by decide
theorem test_decode_xfer : decode 0b00000000000000000000000001011001#32 = .ok (.xfer true false true false) := by decide
theorem test_decode_xfer_end_in :
    decode 0b00000000000000000000000010101001#32 = .ok (.xfer false true false true) := by decide
theorem test_decode_opcode_zero : decode 0x00000000 = .error .reservedOpcode := by decide
theorem test_decode_opcode_fifteen : decode 0x0000000F = .error .reservedOpcode := by decide
theorem test_decode_unused_bits :
    decode 0x00000011 = .error .nonzeroUnusedBits ∧ decode 0x00000802 = .error .nonzeroUnusedBits ∧
      decode 0x00004006 = .error .nonzeroUnusedBits ∧ decode 0x00000168 = .error .nonzeroUnusedBits ∧
      decode 0x80000009 = .error .nonzeroUnusedBits := by decide
theorem test_decodeTableWord : decodeTableWord 32 0x00000502 = some (.claim 5) ∧ decodeTableWord 32 10 = none := by decide

/-! ### One command, one step -/

/-- TV 2.5, setup at reset. -/
theorem test_setup :
    (nextOf (step (State.reset.withFetchWord 32 1))).map (fun t => (t.ctrl, t.mask, t.dwcfg, t.init, t.sel, t.r0)) =
      some (2, 1, 0, true, false, 0) := by decide
/-- TV 2.5, setup while claimed. -/
theorem test_setup_busy : results (exec .setup (claimedAt pWin 2 0 0 0)) = some (3, 0, 0, 0) := by decide
/-- TV 2.5, claim cs=2. -/
theorem test_claim :
    (nextOf (exec (.claim 2) (freeAt pWin 0 0))).map (fun t => (t.claimedCs, t.r0, t.r1, t.trace)) =
      some (some 2, 0, 2, [.hook .onClaim]) := by decide
/-- TV 2.5, claim cs=7 while claimed: INVALID_CS before BUSY. -/
theorem test_claim_invalid : results (exec (.claim 7) (claimedAt pWin 2 0 0 0)) = some (2, 0, 0, 0) := by decide
/-- TV 2.5, release. -/
theorem test_release :
    (nextOf (exec .release (claimedAt pWin 2 0 0 0))).map (fun t => (t.claimed, t.claimedCs, t.r0, t.violation)) =
      some (false, none, 0, false) := by decide
/-- TV 2.5, release with select held. -/
theorem test_release_held :
    (nextOf (exec .release { claimedAt pWin 2 0 0 0 with sel := true })).map (fun t => (t.claimed, t.r0, t.violation)) =
      some (true, 6, true) := by decide
/-- TV 2.1, row S1. -/
theorem test_clkCompute : results (exec .clkCompute (freeAt pWin 200000000 1000000)) = some (0, 13, 4, 0x8D) := by decide
/-- TV 2.1, the carry at 31 and the error at 1921; TV 2.6, an operand past 32 bits. -/
theorem test_clkCompute_edges :
    results (exec .clkCompute (freeAt pWin 31 1)) = some (0, 8, 2, 0x48) ∧
      results (exec .clkCompute (freeAt pWin 1921 1)) = some (1, 0, 0, 0) ∧
      results (exec .clkCompute (freeAt pWin 0x100000000 1)) = some (8, 0, 0, 0) := by decide
/-- TV 2.1, SET_SPEED over CFG = 0xFFFFFFFF. -/
theorem test_setSpeed :
    (nextOf (exec .setSpeed { claimedAt pWin 0 50000000 0 0 with cfg := 0xFFFFFFFF })).map
      (fun t => (t.cfg, t.curClock, t.r1, t.r3)) = some (0xFFFFFF24, some ⟨4, 0⟩, 4, 4) := by decide
/-- TV 2.6, NOT_CLAIMED before CONFIG_ERROR. -/
theorem test_setSpeed_free : results (exec .setSpeed (freeAt pWin 0 0)) = some (5, 0, 0, 0) := by decide
/-- TV 2.2, mode.compute cpha lsb. -/
theorem test_modeCompute : results (exec (.modeCompute true false true) State.reset) = some (0, 0x7000, 0, 0) := by decide
/-- TV 2.2, set_mode cpol over CFG = 0xFFFFFFFF. -/
theorem test_setMode :
    (nextOf (exec (.setMode false true false) { claimedAt pWin 0 0 0 0 with cfg := 0xFFFFFFFF })).map
      (fun t => (t.cfg, t.curMode)) = some (0xFFFF8FFF, some ⟨false, true, false⟩) := by decide
/-- TV 2.3, resolve cs=1 out. -/
theorem test_resolve : results (exec (.resolve 1 true false) (State.launch pWin)) = some (0, 1, 0xE0000000, 0x100000) := by
  decide
/-- TV 2.3, resolve cs=1 out in, and cs=6 out. -/
theorem test_resolve_polled :
    results (exec (.resolve 1 true true) (State.launch pWin)) = some (0, 0, 0, 0) ∧
      results (exec (.resolve 6 true false) (State.launch pWin)) = some (2, 0, 0, 0) := by decide
/-- TV 2.6, XFER with an out address of 2^32: refused when OUT = 1, ignored when OUT = 0. -/
theorem test_xfer_address :
    results (exec (.xfer false false true false) (claimedAt pWin 0 8 0x100000000 0)) = some (8, 0, 0, 0) ∧
      (nextOf (exec (.xfer false false false false) (claimedAt pWin 0 8 0x100000000 0))).map (fun t => t.fsm) =
        some (.xfer .body) := by decide
/-- TV 2.6, XFER before SETUP. -/
theorem test_xfer_reset : results (step (State.reset.withFetchWord 32 9)) = some (7, 0, 0, 0) := by decide

/-- R277: the host writes CFG on a free bus; while the bus is claimed the write is no move. -/
theorem test_host_register :
    (nextOf (step { freeAt pWin 0 0 with fsm := .idle, host := [.writeReg .cfg 5] })).map (fun t => (t.cfg, t.host)) =
        some (5, []) ∧
      (nextOf (step { claimedAt pWin 0 0 0 0 with fsm := .idle, host := [.writeReg .cfg 5] })).isNone = true := by decide

/-! ### One state of a transfer -/

/-- TV 2.3, SELECT over 0xFFFFFFFF with cs 0 and over 0x6 with cs 2. -/
theorem test_select : selectValue pWin 0 0xFFFFFFFF = 0xFFFFFFE3 ∧ selectValue pWin 2 0x6 = 0xB := by decide
/-- TV P1 step 7, the XFERLEN write of a two-byte word. -/
theorem test_length : lenValue pWin .two 0x8D = 0xAD ∧ lenValue pWin .one 0xAD = 0x8D := by decide
/-- TV T-X3, the byte order of a two-byte word: the second byte is the high one. -/
theorem test_out_word :
    (nextOf (step { polledAt pWin .pOutB1 with xfer := { (polledAt pWin .pOutB1).xfer with word := 0xAB } })).map
      (fun t => t.xfer.word) = some 0xCDAB := by decide
/-- TV P1 step 7, the second input byte. -/
theorem test_in_byte :
    (nextOf (step { polledAt pWin .pInB1 with xfer := { (polledAt pWin .pInB1).xfer with d := 0xCDAB } })).map
      (fun t => memGet t.mem 0x2001) = some 0xCD := by decide
/-- TV P5 B, the timeout under ABORT. -/
theorem test_timeout :
    (nextOf (step (polledAt pAbort .pTmo))).map (fun t => (t.diag, t.timeoutTotal, t.xfer.status, t.xfer.stop)) =
      some ([.wordTimeout 16 2 0], 1, .wordTimeout, true) := by decide
/-- TV P3 step 5, the tail byte: one WIN1 at the base. -/
theorem test_window_byte :
    (nextOf (step { directAt pWin .dBw with xfer := { (directAt pWin .dBw).xfer with acc := 5, left := 1 } })).map
      (fun t => (windowWrites t, t.xfer.left)) = some ([(0xE0000000, 1, 5)], 0) := by decide

/-! ### Memory: a write keeps the canonical form, and writing what an unlisted address reads as removes the entry (log 4) -/

theorem test_memPut_order : memPut [(5, 1), (9, 2)] 7 3 = [(5, 1), (7, 3), (9, 2)] := by decide
theorem test_memPut_removes : memPut [(5, 1), (9, 2)] 5 0 = [(9, 2)] := by decide

/-! ### Witnesses -/

theorem witness_ReservedOpcodesAreRefused :
    (∃ s : State, s.params.wf = true ∧ s.fsm = .check ∧ s.cmd.extractLsb' 0 4 = 0#4) ∧
    (∃ s : State, s.params.wf = true ∧ s.fsm = .check ∧ 0xA#4 ≤ s.cmd.extractLsb' 0 4) ∧
    ∃ s : State, s.params.wf = true ∧ s.fsm = .check ∧ 0xA#4 ≤ s.cmd.extractLsb' 0 4 ∧ s.cmd = 0xFFFFFFFF :=
  ⟨⟨State.reset.withFetchWord 32 0, by decide⟩, ⟨State.reset.withFetchWord 32 0xA, by decide⟩,
    ⟨State.reset.withFetchWord 32 0xFFFFFFFF, by decide⟩⟩

theorem witness_BadCommandsEndReserved :
    (∃ s : State, s.params.wf = true ∧ s.fsm = .check ∧ ∀ i, decode s.cmd ≠ .ok i) ∧
    (∃ s : State, s.a0.extractLsb' 32 32 ≠ 0 ∧ s.a1.extractLsb' 32 32 = 0) ∧
    (∃ s : State, s.a0.extractLsb' 32 32 = 0 ∧ s.a1.extractLsb' 32 32 ≠ 0) ∧
    (∃ s : State, s.a0.extractLsb' 32 32 = 0 ∧ 2 ^ s.params.addrW ≤ s.a1.toNat ∧ s.a2.toNat < 2 ^ s.params.addrW) ∧
    (∃ s : State, s.a0.extractLsb' 32 32 = 0 ∧ s.a1.toNat < 2 ^ s.params.addrW ∧ 2 ^ s.params.addrW ≤ s.a2.toNat) := by
  refine ⟨⟨State.reset.withFetchWord 32 0x11, by decide, by decide, ?_⟩, ⟨claimedAt pWin 0 0x100000000 0 0, by decide⟩,
    ⟨claimedAt pWin 0 0 0x100000000 0, by decide⟩, ⟨claimedAt pWin 0 8 0x100000000 0xFFFFFFFF, by decide⟩,
    ⟨claimedAt pWin 0 8 0xFFFFFFFF 0x100000000, by decide⟩⟩
  intro i h
  rw [show decode (State.reset.withFetchWord 32 0x11).cmd = .error .nonzeroUnusedBits by decide] at h
  cases h

theorem witness_StepRunsTheDecodedCommand :
    (∃ s : State, s.params.wf = true ∧ s.fsm = .check ∧ decode s.cmd = .ok (.xfer true true true true)) ∧
      State.reset.params.wf = true ∧ decode 0x00000202 = .ok (.claim 2) :=
  ⟨⟨{ claimedAt pWin 0 16 0x1000 0x2000 with cmd := 0xF9 }, by decide⟩, by decide⟩

theorem witness_IdleStepIsTheHostsMove :
    ∀ h ∈ [[], [HostMove.writeCmd 1], [.writeA 0 7], [.writeA 1 7], [.writeA 2 7], [.writeMem 0 1],
        [.writeMem 0xFFFFFFFF 1], [.writeMem 0x100000000 1], [.writeReg .ctrl 1], [.writeReg .cause 1]],
      ∀ c : Bool, ∃ s : State, s.params.wf = true ∧ memWf s.mem = true ∧ s.fsm = .idle ∧ s.host = h ∧ s.claimed = c ∧
        s.params.addrW = 32 := by
  intro h _ c
  exact ⟨{ claimedAt pWin 0 0 0 0 with fsm := .idle, host := h, claimed := c }, show pWin.wf = true by decide,
    show memWf [(0x1000, 0xAB), (0x1001, 0xCD)] = true by decide, rfl, rfl, rfl, rfl⟩

theorem witness_HostIsBlockedDuringACommand : ∃ s t : State, s.fsm ≠ .idle ∧ s.host ≠ [] ∧ step s = .next t :=
  ⟨{ polledAt pWin .pPoll with host := [.writeCmd 1] }, _, by decide, by decide, rfl⟩

theorem witness_IllFormedConfigurationsAreRefused :
    (∃ s : State, ∃ c ∈ s.params.validCs, 2 ^ s.params.csW ≤ c) ∧
    (∃ s : State, ∃ w ∈ s.params.windows, w.size = 0) ∧ (∃ s : State, ∃ w ∈ s.params.windows, w.base % 4 ≠ 0) ∧
    (∃ s : State, ∃ w ∈ s.params.windows, 2 ^ s.params.addrW < w.base + w.size) ∧
    (∃ s : State, ∃ w ∈ s.params.windows, w.cs ∉ s.params.validCs) ∧ (∃ s : State, s.params.pollBound = 0) ∧
    (∃ s : State, ∃ b, b % 8 = 0 ∧ directBytes s.params b ≠ b / 8) :=
  ⟨⟨State.launch { pWin with validCs := [8] }, 8, by decide⟩, ⟨State.launch { pWin with windows := [⟨1, 0, 0⟩] }, ⟨1, 0, 0⟩, by decide⟩,
    ⟨State.launch { pWin with windows := [⟨1, 2, 4⟩] }, ⟨1, 2, 4⟩, by decide⟩,
    ⟨State.launch { pWin with windows := [⟨1, 0xFFFFFFFC, 8⟩] }, ⟨1, 0xFFFFFFFC, 8⟩, by decide⟩,
    ⟨State.launch { pWin with windows := [⟨5, 0, 4⟩] }, ⟨5, 0, 4⟩, by decide⟩,
    ⟨State.launch { pWin with pollBound := 0 }, rfl⟩, ⟨State.launch { pWin with directTable := [(16, 3)] }, 16, by decide⟩⟩

theorem witness_ConfigurationNeverChanges : ∃ s t : State, step s = .next t ∧ t ≠ s :=
  ⟨polledAt pWin .pTest, _, rfl, by decide⟩

/-- `CoreInv` and `XferInv` are met in the middle of a polled transfer. -/
theorem polledAt_inv (st : XferState) (h : st = .pPoll ∨ st = .pInR ∨ st = .selR) : Inv (polledAt pWin st) := by
  have hc : CoreInv (polledAt pWin .pPoll) := by
    refine ⟨by decide, by decide, ?_, by decide, by decide, fun _ => ⟨0, rfl, by decide⟩, by decide, by decide, by decide,
      by decide⟩
    intro a v h
    have hp : (2 : Nat) ^ (polledAt pWin .pPoll).params.addrW = 4294967296 := rfl
    simp [polledAt, claimedAt] at h
    omega
  refine ⟨hc.congr rfl rfl rfl rfl rfl rfl rfl rfl rfl rfl, ?_⟩
  rcases h with rfl | rfl | rfl <;> constructor <;> simp [polledAt, claimedAt, State.launch, Xfer.idle] <;> decide

/-- `Inv` is met by a state in the middle of a transfer, not only at reset. -/
theorem witness_StepKeepsInvariant : ∃ s t : State, Inv s ∧ s.fsm = .xfer .pPoll ∧ step s = .next t :=
  ⟨polledAt pWin .pPoll, _, polledAt_inv _ (.inl rfl), rfl, rfl⟩

theorem witness_layout : ∃ p : Params, p.layout = {} ∧ p.csW = 3 ∧ p.wf = true := ⟨pWin, rfl, rfl, by decide⟩

theorem witness_ClockDivIsTheBestDivider :
    ∃ core target d c, 0 < core ∧ 0 < target ∧ core ≤ d * target ∧ (∀ q, core ≤ q * target → d ≤ q) ∧
      clockDiv core target = some c ∧ 16 ≤ d :=
  ⟨1920, 1, 1920, ⟨15, 7⟩, by decide, by decide, by decide, fun q h => by omega, by decide, by decide⟩

theorem witness_ClockDivBranches :
    (∃ core target d, 0 < target ∧ core ≤ d * target ∧ (∀ q, core ≤ q * target → d ≤ q) ∧ d = 15 ∧ 0 < core ∧ core ≤ target * 15) ∧
    (∃ core target d c, 0 < target ∧ core ≤ d * target ∧ (∀ q, core ≤ q * target → d ≤ q) ∧ d = 16 ∧
      clockDiv core target = some c) ∧
    (∃ core target d, 0 < target ∧ core ≤ d * target ∧ (∀ q, core ≤ q * target → d ≤ q) ∧ d = 0 ∧ core = 0) ∧
    (∃ core target d, 0 < target ∧ core ≤ d * target ∧ (∀ q, core ≤ q * target → d ≤ q) ∧ 0 < core ∧ core ≤ target ∧ d = 1) :=
  ⟨⟨100, 7, 15, by decide, by decide, fun q h => by omega, rfl, by decide, by decide⟩,
    ⟨16, 1, 16, ⟨8, 1⟩, by decide, by decide, fun q h => by omega, rfl, by decide⟩,
    ⟨0, 1, 0, by decide, by decide, fun q h => by omega, rfl, rfl⟩,
    ⟨1, 4294967295, 1, by decide, by decide, fun q h => by omega, by decide, by decide, rfl⟩⟩

/-- The three outcomes of CLK_COMPUTE. -/
theorem witness_ClkComputeResult :
    results (exec .clkCompute (freeAt pWin 0xFFFFFFFF 0xFFFFFFFF)) = some (0, 1, 0, 1) ∧
      results (exec .clkCompute (freeAt pWin 0xFFFFFFFF 1)) = some (1, 0, 0, 0) ∧
      results (exec .clkCompute (freeAt pWin 1 0x100000000)) = some (8, 0, 0, 0) := by decide

theorem witness_RegisterFields :
    ∃ (p : Params) (old v : Word) (c : ClockPair), p.wf = true ∧ p ≠ Params.common ∧
      v = (old &&& ~~~(clockMask p)) ||| clkImg p c :=
  ⟨{ pWin with layout := { adrLen := 16, cpol := 31 } }, 0xFFFFFFFF, _, ⟨15, 7⟩, by decide, by decide, rfl⟩

theorem witness_SetModeProgramsTheModeFields :
    ∃ (p : Params) (old v : Word) (m : ModeFlags), p.wf = true ∧ v = (old &&& ~~~(modeMask p)) ||| modeEnc p m :=
  ⟨pWin, 0xFFFFFFFF, _, ⟨true, false, true⟩, by decide, rfl⟩

theorem witness_SelectAction :
    ∃ (s : State) (v : Word), s.params.wf = true ∧ s.fsm = .xfer .selR ∧ s.claimedCs = some 3 ∧ s.params.layout = {} ∧
      s.params.csW = 3 ∧
      v = (s.ctrl &&& ~~~(csEnMask s.params ||| csMask s.params)) |||
        (fieldImg s.params.layout.cs (3 : BitVec 3).toNat ||| csEnMask s.params) :=
  ⟨{ polledAt pWin .selR with claimedCs := some 3 }, _, by decide, rfl, rfl, rfl, rfl, rfl⟩

theorem witness_SelectAction_inv : ∃ s : State, s.fsm = .xfer .selR ∧ s.claimedCs = some 0 ∧ Inv s :=
  ⟨polledAt pWin .selR, rfl, rfl, polledAt_inv _ (.inr (.inr rfl))⟩

theorem witness_DeselectAction :
    ∃ (s : State) (v : Word), s.params.wf = true ∧ s.fsm = .xfer .dselR ∧ s.params.layout = {} ∧
      v = s.ctrl &&& ~~~(csEnMask s.params) :=
  ⟨polledAt pWin .dselR, _, by decide, rfl, rfl, rfl⟩

theorem witness_SelectLineBits :
    ∃ (p : Params) (cs : BitVec 3) (old sel desel : Word), p.wf = true ∧ cs.toNat < 2 ^ p.csW ∧
      sel = selectValue p cs old ∧ desel = rmwValue sel (csEnMask p) 0 :=
  ⟨pWin, 7, 0xFFFFFFFF, _, _, by decide, by decide, rfl, rfl⟩

/-- RESOLVE of a window whose size fits, and the largest window of R10, whose size does not (log 9). -/
theorem witness_ResolveResult :
    pathOf pWin 1 true false = .direct 0xE0000000 0x00100000 ∧
      pathOf { pWin with addrW := 64, windows := [⟨1, 0, 2 ^ 64⟩] } 1 true false = .direct 0 (2 ^ 64) ∧
      Params.wf { pWin with addrW := 64, windows := [⟨1, 0, 2 ^ 64⟩] } = true := by decide

theorem witness_SetupResult : ∃ s : State, s.claimed = false ∧ s.params.layout = {} := ⟨State.reset, rfl, rfl⟩

theorem witness_OnlyClaimClaimsAndReleaseReleases :
    (∃ s t : State, step s = .next t ∧ s.claimed = false ∧ t.claimed = true) ∧
      ∃ s t : State, step s = .next t ∧ s.claimed = true ∧ t.claimed = false :=
  ⟨⟨{ freeAt pWin 0 0 with cmd := 0x2 }, _, rfl, by decide, by decide⟩,
    ⟨{ claimedAt pWin 0 0 0 0 with cmd := 0x3 }, _, rfl, by decide, by decide⟩⟩

theorem witness_ShadowsAreWrittenOnlyBySetters :
    (∃ s t : State, step s = .next t ∧ t.curClock ≠ s.curClock) ∧ ∃ s t : State, step s = .next t ∧ t.curMode ≠ s.curMode :=
  ⟨⟨{ claimedAt pWin 0 1000000 0 0 with cmd := 0x5 }, _, rfl, by decide⟩,
    ⟨{ claimedAt pWin 0 0 0 0 with cmd := 0x7 }, _, rfl, by decide⟩⟩

theorem witness_RefusalsMakeNoAccess : ∃ s t : State, exec (.claim 1) s = .next t ∧ t.fsm = .idle ∧ t.r0 ≠ 0 :=
  ⟨claimedAt pWin 0 0 0 0, _, rfl, by decide, by decide⟩

theorem witness_ViolationIsStickyAndExact :
    ∃ s t : State, step s = .next t ∧ s.violation = false ∧ s.fsm ≠ .idle ∧ t.fsm = .idle ∧ 5 ≤ t.r0.toNat :=
  ⟨State.reset.withFetchWord 32 3, _, rfl, by decide, by decide, by decide, by decide⟩

theorem witness_NothingRunsBeforeSetup :
    ∃ s t : State, s.init = false ∧ s.a0.extractLsb' 32 32 = 0 ∧ s.a1.toNat < 2 ^ s.params.addrW ∧
      s.a2.toNat < 2 ^ s.params.addrW ∧ exec (.resolve 1 true false) s = .next t :=
  ⟨State.reset, _, by decide, by decide, by decide, by decide, rfl⟩

theorem witness_SelectHeldRefusals :
    ∃ s t : State, s.init = true ∧ s.claimed = true ∧ s.sel = true ∧ s.a0.extractLsb' 32 32 = 0 ∧
      (1 : BitVec 3).toNat ∈ s.params.validCs ∧ exec (.modeCompute true false true) s = .next t ∧ t.fsm = .idle :=
  ⟨{ claimedAt pWin 0 0 0 0 with sel := true }, _, by decide, by decide, by decide, by decide, by decide, rfl, by decide⟩

/-- Each of the four outcomes of XFER's checks. -/
theorem witness_XferChecksThenBegins :
    results (exec (.xfer true true true true) (claimedAt pWin 0 0x100000000 0 0)) = some (8, 0, 0, 0) ∧
      results (exec (.xfer true true true true) State.reset) = some (7, 0, 0, 0) ∧
      results (exec (.xfer true true true true) (freeAt pWin 0xFFFFFFFF 0xFFFFFFFF)) = some (5, 0, 0, 0) ∧
      (nextOf (exec (.xfer true true true true) (claimedAt pWin 0 16 0x1000 0x2000))).map (fun t => t.fsm) =
        some (.xfer .selR) := by decide

/-- `TransferStatesFollowTheTable`, `TransferFrame`, `XferStoresOnlyAtTheInCursor` and `TimeoutsAreCountedOnlyByTimeouts`: every
state of a transfer has a step. -/
theorem witness_TransferStates :
    ∀ st : XferState, ∃ s t : State, s.fsm = .xfer st ∧ step s = .next t := by
  intro st
  cases st <;> exact ⟨polledAt pWin _, _, rfl, rfl⟩

/-- A buffer in `HOST_MEM`, whose launch admits every `ADDR_W`-bit address. -/
theorem buffer_ok (buf : Option Nat) (n : Nat) : bufferAdmitted pWin buf n := by
  intro a _ j _
  simp [admits, pWin, Params.common, addrAdd]
  omega

theorem witness_WordLaunchSequence :
    ∃ (s : State) (w : Width) (c : Word), s.params.wf = true ∧ s.fsm = .xfer .pTest ∧ 4 < s.xfer.rem ∧ s.xfer.stop = false ∧
      (∀ a, s.xfer.op = some a → a < 2 ^ s.params.addrW) ∧ bufferAdmitted s.params s.xfer.op (widthBytes w) ∧
      w = (if s.xfer.rem ≤ 8 then .one else .two) ∧ c = causeDraw s s.causeReads :=
  ⟨polledAt pWin .pTest, .two, _, by decide, rfl, by decide, rfl, by intro a h; cases h; decide, buffer_ok _ _, by decide, rfl⟩

theorem witness_PollLoopIsBounded :
    (∃ s : State, s.params.wf = true ∧ s.fsm = .xfer .pPoll ∧ s.xfer.n = 0 ∧ 1 < s.params.pollBound ∧
      (∀ j, j < 1 → wcSet s.params (causeDraw s (s.causeReads + j)) = false) ∧
      wcSet s.params (causeDraw s (s.causeReads + 1)) = true) ∧
    ∃ s : State, s.params.wf = true ∧ s.fsm = .xfer .pPoll ∧ s.xfer.n = 0 ∧
      ∀ j, j < s.params.pollBound → wcSet s.params (causeDraw s (s.causeReads + j)) = false :=
  ⟨⟨{ polledAt pWin .pPoll with causeReads := 1 }, by decide, rfl, rfl, by decide, by decide, by decide⟩,
    ⟨polledAt pWin .pPoll, by decide, rfl, rfl, by decide⟩⟩

theorem witness_CompletedWordAdvances :
    (∃ s : State, s.params.wf = true ∧ memWf s.mem = true ∧ s.fsm = .xfer .pPoll ∧
      wcSet s.params (causeDraw s s.causeReads) = true ∧ s.xfer.ip = none) ∧
    ∃ s : State, s.params.wf = true ∧ memWf s.mem = true ∧ s.fsm = .xfer .pPoll ∧
      wcSet s.params (causeDraw s s.causeReads) = true ∧ s.xfer.ip = some 0xFFFFFFFF ∧ 0xFFFFFFFF < 2 ^ s.params.addrW ∧
      1 < 2 ^ s.params.addrW ∧ bufferAdmitted s.params (some 0xFFFFFFFF) 2 ∧ s.xfer.w = .two :=
  ⟨⟨{ polledAt pWin .pPoll with causeReads := 2, xfer := { Xfer.idle with op := some 0x1000 } }, by decide, by decide, rfl,
      by decide, rfl⟩,
    ⟨{ polledAt pWin .pPoll with causeReads := 2, xfer := { (polledAt pWin .pPoll).xfer with ip := some 0xFFFFFFFF } },
      by decide, by decide, rfl, by decide, rfl, by decide, by decide, buffer_ok _ _, rfl⟩⟩

theorem witness_TimeoutIsRecorded :
    ∃ (s : State) (cs : BitVec 3), s.params.wf = true ∧ s.fsm = .xfer .pTmo ∧ s.claimedCs = some cs :=
  ⟨polledAt pAbort .pTmo, 0, by decide, rfl, rfl⟩

theorem witness_XferNeverTouches :
    ∃ s t : State, Inv s ∧ s.fsm = .xfer .pInR ∧ step s = .next t ∧ t.dinReads ≠ s.dinReads :=
  ⟨polledAt pWin .pInR, _, polledAt_inv _ (.inr (.inl rfl)), rfl, rfl, by decide⟩

theorem witness_StuckOnlyOutsideHostMemory :
    (∃ s : State, s.params.wf = true ∧ s.fsm ≠ .idle ∧ accessedByte s = some 0x10000 ∧ admits s.params 0x10000 = false) ∧
    ∃ s : State, s.params.wf = true ∧ s.fsm ≠ .idle ∧ accessedByte s = some 0xFFFF ∧
      ∀ a, accessedByte s = some a → admits s.params a = true :=
  ⟨⟨{ polledAt pSmall .pOutB1 with xfer := { Xfer.idle with op := some 0xFFFF } }, by decide⟩,
    ⟨{ polledAt pSmall .pInB0 with xfer := { Xfer.idle with ip := some 0xFFFF } }, by decide, by decide, by decide,
      by intro a h; cases h; decide⟩⟩

/-! The whole transfers: `pWin` polls at most twice; chip select 0 has no window and chip select 1 has one. -/

theorem witness_TimedOutWordIsRetried :
    ∃ (s : State) (w : Width), s.params.wf = true ∧ s.params.timeoutPolicy = .continues ∧ s.fsm = .xfer .pTest ∧
      4 < s.xfer.rem ∧ s.xfer.stop = false ∧ (∀ a, s.xfer.op = some a → a < 2 ^ s.params.addrW) ∧
      w = (if s.xfer.rem ≤ 8 then .one else .two) ∧ bufferAdmitted s.params s.xfer.op (widthBytes w) ∧
      ∀ j, j < s.params.pollBound → wcSet s.params (causeDraw s (s.causeReads + 1 + j)) = false :=
  ⟨{ polledAt pWin .pTest with causeReads := 2 }, .two, by decide, rfl, rfl, by decide, rfl, by intro a h; cases h; decide,
    by decide, buffer_ok _ _, by decide⟩

theorem witness_NeverCompletingWordHangs :
    ∃ s : State, s.params.wf = true ∧ s.params.timeoutPolicy = .continues ∧ s.fsm = .xfer .pTest ∧
      4 < s.xfer.rem ∧ s.xfer.stop = false ∧ (∀ a, s.xfer.op = some a → a < 2 ^ s.params.addrW) ∧
      bufferAdmitted s.params s.xfer.op (widthBytes (if s.xfer.rem ≤ 8 then .one else .two)) ∧
      (∀ j, j < 30 → j % (s.params.pollBound + 1) ≠ 0 → wcSet s.params (causeDraw s (s.causeReads + j)) = false) ∧
      wcSet s.params (causeDraw s s.causeReads) = true :=
  ⟨{ polledAt pWin .pTest with causeScript := (List.replicate 10 [1, 0, 0]).flatten }, by decide, rfl, rfl, by decide, rfl,
    by intro a h; cases h; decide, buffer_ok _ _, by decide, by decide⟩

theorem witness_CompletedWordCost :
    ∃ (s : State) (w : Width), s.params.wf = true ∧ s.fsm = .xfer .pTest ∧ 4 < s.xfer.rem ∧ s.xfer.stop = false ∧
      w = (if s.xfer.rem ≤ 8 then .one else .two) ∧ (∀ a, s.xfer.op = some a → a < 2 ^ s.params.addrW) ∧
      (∀ a, s.xfer.ip = some a → a < 2 ^ s.params.addrW) ∧ bufferAdmitted s.params s.xfer.op (widthBytes w) ∧
      bufferAdmitted s.params s.xfer.ip (widthBytes w) ∧ attemptCompletes s s.causeReads 1 :=
  ⟨polledAt pWin .pTest, .two, by decide, rfl, by decide, rfl, by decide, by intro a h; cases h; decide,
    by intro a h; cases h; decide, buffer_ok _ _, buffer_ok _ _, by decide⟩

/-- A first word that times out once and completes at the second poll, a second word that completes at the first poll; the reads of
the clear show WC = 1, as a word before leaves it. -/
def scripted (s : State) : State := { s with causeScript := [1, 0, 0, 1, 0, 1, 1, 1] }

theorem witness_PolledTransferCompletes_done :
    (∃ s : State, s.params.wf = true ∧ s.fsm = .xfer .done ∧ s.xfer.status = .ok ∧ s.xfer.words < 2 ^ 64 ∧ s.xfer.tmo = 2) ∧
      ∃ s : State, s.params.wf = true ∧ s.fsm = .xfer .done ∧ s.xfer.status = .wordTimeout :=
  ⟨⟨{ polledAt pWin .done with xfer := { Xfer.idle with words := 3, tmo := 2 } }, by decide, rfl, rfl, by decide, rfl⟩,
    ⟨{ polledAt pAbort .done with xfer := { Xfer.idle with tmo := 1, status := .wordTimeout } }, by decide, rfl, rfl⟩⟩

/-- TV T-X6: under CONTINUE the status is OK, R[1] counts the words and R[2] the timeouts; here two timeouts (R172, R184). -/
theorem test_done :
    results (step { polledAt pWin .done with xfer := { Xfer.idle with words := 1, tmo := 2 } }) = some (0, 1, 2, 0) := by decide

theorem witness_PolledTransferCompletes :
    ∃ (s : State) (ws : List (Nat × Nat)), s.params.wf = true ∧ s.init = true ∧ s.claimed = true ∧ s.a0.toNat = 24 ∧
      s.a1.toNat < 2 ^ s.params.addrW ∧ s.a2.toNat < 2 ^ s.params.addrW ∧
      pathOf s.params (claimedIndex s) true true = .polled ∧
      bufferAdmitted s.params (some s.a1.toNat) (polledBytes 24) ∧ bufferAdmitted s.params (some s.a2.toNat) (polledBytes 24) ∧
      ws.length = polledWords 24 ∧ wordsComplete s s.causeReads ws ∧ retries ws = 1 :=
  ⟨scripted (claimedAt pWin 1 24 0x1000 0x2000), [(1, 1), (0, 0)], by decide, rfl, rfl, by decide, by decide, by decide,
    by decide, buffer_ok _ _, buffer_ok _ _, by decide,
    ⟨by decide, by decide, by decide, by decide, by decide, by decide, trivial⟩, rfl⟩

theorem witness_PolledTransferSendsTheBuffer :
    ∃ (s : State) (ws : List (Nat × Nat)), s.params.wf = true ∧ s.init = true ∧ s.claimed = true ∧ s.a0.toNat = 24 ∧
      s.a1.toNat < 2 ^ s.params.addrW ∧ s.a2.toNat < 2 ^ s.params.addrW ∧
      pathOf s.params (claimedIndex s) true true = .polled ∧
      bufferAdmitted s.params (some s.a1.toNat) (polledBytes 24) ∧ bufferAdmitted s.params (some s.a2.toNat) (polledBytes 24) ∧
      (∀ j k, j < polledBytes 24 → k < polledBytes 24 →
        addrAdd s.params s.a1.toNat j ≠ addrAdd s.params s.a2.toNat k) ∧
      ws.length = polledWords 24 ∧ wordsComplete s s.causeReads ws := by
  refine ⟨scripted (claimedAt pWin 0 24 0x1000 0x1003), [(1, 1), (0, 0)], by decide, rfl, rfl, by decide, by decide, by decide,
    by decide, buffer_ok _ _, buffer_ok _ _, ?_, by decide,
    ⟨by decide, by decide, by decide, by decide, by decide, by decide, trivial⟩⟩
  have h : ∀ j, j < polledBytes 24 → ∀ k, k < polledBytes 24 → addrAdd pWin 0x1000 j ≠ addrAdd pWin 0x1003 k := by decide
  exact fun j k hj hk => h j hj k hk

theorem witness_PolledTransferFillsTheBuffer :
    ∃ (s : State) (ws : List (Nat × Nat)), s.params.wf = true ∧ memWf s.mem = true ∧ s.init = true ∧ s.claimed = true ∧
      s.a0.toNat = 24 ∧ s.a1.toNat < 2 ^ s.params.addrW ∧ s.a2.toNat < 2 ^ s.params.addrW ∧
      polledBytes 24 ≤ 2 ^ s.params.addrW ∧ bufferAdmitted s.params (some s.a1.toNat) (polledBytes 24) ∧
      bufferAdmitted s.params (some s.a2.toNat) (polledBytes 24) ∧ ws.length = polledWords 24 ∧
      wordsComplete s s.causeReads ws :=
  ⟨scripted (claimedAt pWin 1 24 0x1000 0xFFFFFFFF), [(1, 1), (0, 0)], by decide, by decide, rfl, rfl, by decide, by decide,
    by decide, by decide, buffer_ok _ _, buffer_ok _ _, by decide,
    ⟨by decide, by decide, by decide, by decide, by decide, by decide, trivial⟩⟩

theorem witness_LoopBackExchangeReturnsTheBytes :
    ∃ s : State, s.params.wf = true ∧ memWf s.mem = true ∧ s.init = true ∧ s.claimed = true ∧ s.a0 = 16 ∧
      s.a1.toNat + 1 < 2 ^ s.params.addrW ∧ s.a2.toNat + 1 < 2 ^ s.params.addrW ∧
      bufferAdmitted s.params (some s.a1.toNat) 2 ∧ bufferAdmitted s.params (some s.a2.toNat) 2 ∧
      wordsComplete s s.causeReads [(1, 1)] ∧
      (dinDraw s s.dinReads).setWidth 16 = memGet s.mem (s.a1.toNat + 1) ++ memGet s.mem s.a1.toNat :=
  ⟨{ scripted (claimedAt pWin 0 16 0x1000 0x1000) with dinScript := [0xCDAB] }, by decide, by decide, rfl, rfl, rfl, by decide,
    by decide, buffer_ok _ _, buffer_ok _ _, ⟨by decide, by decide, by decide, trivial⟩, by decide⟩

/-- The polled path with a DIRECT_BYTES that departs at 4 bits, and the direct path with the default. -/
theorem witness_TinyTransferMovesNoData :
    (∃ s : State, s.params.wf = true ∧ s.init = true ∧ s.claimed = true ∧ s.a0.toNat = 4 ∧ s.a1.toNat < 2 ^ s.params.addrW ∧
      s.a2.toNat < 2 ^ s.params.addrW ∧ pathOf s.params (claimedIndex s) true true = .polled ∧
      directBytes s.params s.a0.toNat = 7) ∧
    ∃ s : State, s.params.wf = true ∧ s.init = true ∧ s.claimed = true ∧ s.a0.toNat = 4 ∧ s.a1.toNat < 2 ^ s.params.addrW ∧
      pathOf s.params (claimedIndex s) true false ≠ .polled ∧ directBytes s.params s.a0.toNat = 0 :=
  ⟨⟨claimedAt { pWin with directTable := [(4, 7)] } 1 4 0xFFFFFFFF 0, by decide, rfl, rfl, by decide, by decide, by decide,
      by decide, by decide⟩,
    ⟨claimedAt pWin 1 4 0xFFFFFFFF 0, by decide, rfl, rfl, by decide, by decide, by decide, by decide⟩⟩

theorem witness_DirectTransferStreamsTheBuffer :
    ∃ (s : State) (base size : Nat), s.params.wf = true ∧ s.init = true ∧ s.claimed = true ∧ s.a0.toNat = 40 ∧
      s.a1.toNat < 2 ^ s.params.addrW ∧ pathOf s.params (claimedIndex s) true false = .direct base size ∧
      directBytes s.params s.a0.toNat = 5 ∧ bufferAdmitted s.params (some s.a1.toNat) 5 :=
  ⟨claimedAt pWin 1 40 0x1000 0, 0xE0000000, 0x00100000, by decide, rfl, rfl, by decide, by decide, by decide, by decide,
    buffer_ok _ _⟩

theorem witness_AbortedTransfersAlwaysEnd :
    ∃ s : State, s.params.wf = true ∧ s.params.timeoutPolicy = .abort ∧ s.init = true ∧ s.claimed = true ∧
      s.a0.toNat = 24 ∧ s.a1.toNat < 2 ^ s.params.addrW ∧ s.a2.toNat < 2 ^ s.params.addrW ∧
      pathOf s.params (claimedIndex s) true true = .polled ∧
      bufferAdmitted s.params (some s.a1.toNat) (polledBytes 24) ∧ bufferAdmitted s.params (some s.a2.toNat) (polledBytes 24) :=
  ⟨claimedAt pAbort 1 24 0x1000 0x2000, by decide, rfl, rfl, rfl, by decide, by decide, by decide, by decide,
    buffer_ok _ _, buffer_ok _ _⟩

end Sys2Proof.Tests
end

section
/-! What an accepted configuration satisfies, clause by clause (spec/00_scope.md R10), and the refusal of every other one (O9). -/

namespace Sys2Proof.Machine

/-- The configuration check, taken apart: the five conditions of R10, then those of D7, R29 to R33, R60 and R61. -/
theorem wf_iff {p : Params} : p.wf = true ↔
    p.validCsOk = true ∧ p.windowsOk = true ∧ p.windowsValidCs = true ∧ p.pollBoundOk = true ∧ p.directOk = true ∧
      p.offsetsOk = true ∧ p.fieldsFit = true ∧ p.ctrlFieldsDisjoint = true ∧ p.cfgFieldsDisjoint = true ∧
      p.addrWOk = true ∧ p.hostMemOk = true := by
  simp only [Params.wf, Bool.and_eq_true, and_assoc]

/-- A valid index has `CS_W` bits. -/
theorem validCs_lt {p : Params} {c : Nat} (h : p.wf = true) (hc : c ∈ p.validCs) : c < 2 ^ p.csW := by
  obtain ⟨hvalid, -⟩ := wf_iff.1 h
  simp only [Params.validCsOk, List.all_eq_true, decide_eq_true_eq] at hvalid
  exact hvalid c hc

/-- A window is non-empty, word-aligned and inside the address space. -/
theorem window_bounds {p : Params} {w : Window} (h : p.wf = true) (hw : w ∈ p.windows) :
    0 < w.size ∧ w.base % 4 = 0 ∧ w.base + w.size ≤ 2 ^ p.addrW := by
  obtain ⟨-, hwindows, -⟩ := wf_iff.1 h
  simp only [Params.windowsOk, List.all_eq_true, Bool.and_eq_true, decide_eq_true_eq, and_assoc] at hwindows
  exact hwindows w hw

/-- A window belongs to a valid index. -/
theorem window_cs_mem {p : Params} {w : Window} (h : p.wf = true) (hw : w ∈ p.windows) : w.cs ∈ p.validCs := by
  obtain ⟨-, -, howner, -⟩ := wf_iff.1 h
  simp only [Params.windowsValidCs, List.all_eq_true, List.contains_iff_mem] at howner
  exact howner w hw

/-- At a whole number of bytes `DIRECT_BYTES` has its default: the table of departures has no entry to look up there. -/
theorem directBytes_of_mod_eq_zero {p : Params} {b : Nat} (h : p.wf = true) (hb : b % 8 = 0) : directBytes p b = b / 8 := by
  obtain ⟨-, -, -, -, hdirect, -⟩ := wf_iff.1 h
  simp only [Params.directOk, List.all_eq_true, decide_eq_true_eq] at hdirect
  have hnone : p.directTable.lookup b = none := by
    rw [List.lookup_eq_none_iff]
    intro e he
    have hne : b ≠ e.1 := fun hbe => hdirect e he (hbe ▸ hb)
    simpa using hne
  rw [directBytes, hnone, Option.getD_none]

/-- A step under a configuration that is not accepted is the refusal. -/
theorem step_of_not_wf {s : State} (h : ¬ s.params.wf = true) : step s = .refused .illFormedParams := by
  rw [step, if_neg h]

/-- Settles O9: each of the five breaches contradicts what an accepted configuration satisfies. -/
theorem illFormedConfigurationsAreRefused : Obligations.IllFormedConfigurationsAreRefused := by
  intro s hbreach
  refine step_of_not_wf fun hwf => ?_
  rcases hbreach with ⟨c, hc, hge⟩ | ⟨w, hw, hbad⟩ | ⟨w, hw, hcs⟩ | hpoll | ⟨b, hb, hne⟩
  · exact absurd (validCs_lt hwf hc) (Nat.not_lt.2 hge)
  · obtain ⟨hsize, hbase, hend⟩ := window_bounds hwf hw
    omega
  · exact hcs (window_cs_mem hwf hw)
  · exact absurd hpoll (pollBound_pos hwf).ne'
  · exact hne (directBytes_of_mod_eq_zero hwf hb)

end Sys2Proof.Machine
end

section
/-! What a step out of IDLE can do, said once per agent: the effect of each command, and the access of each state of a transfer. -/

namespace Sys2Proof.Machine

/-- R[1], R[2] and R[3] of an encoded mode, as MODE_COMPUTE and SET_MODE write them (spec/41_mode.md R144, R145). -/
def modeResults (m : ModeFlags) (s : State) : State := setResults (zext64 (modeEnc s.params m)) 0 0 s

/-- What a command does at `s` when all its checks pass, with those checks as premises. An XFER begins here and ends at DONE. -/
inductive CommandEffect (s : State) : Instr → State → Prop
  | setup (free : s.claimed = false) :
    CommandEffect s .setup (endCommand .ok { regWrite .dwcfg s.params.dwcfgSetup (regWrite .mask s.params.maskSetup
      { regWrite .ctrl (readyMask s.params) (beginCommand s) with sel := false }) with init := true })
  | claim {cs : BitVec 3} (init : s.init = true) (valid : cs.toNat ∈ s.params.validCs) (free : s.claimed = false) :
    CommandEffect s (.claim cs) (endCommand .ok (setResults (cs.setWidth 64) 0 0
      { hook .onClaim (beginCommand s) with claimed := true, claimedCs := some cs }))
  | release (init : s.init = true) (claimed : s.claimed = true) (unselected : s.sel = false) :
    CommandEffect s .release (endCommand .ok
      { hook .onRelease (beginCommand s) with claimed := false, claimedCs := none })
  | clkCompute {c : ClockPair} (core : numberOk s.a0 = true) (target : numberOk s.a1 = true)
      (pair : clockDiv (numberVal s.a0) (numberVal s.a1) = some c) :
    CommandEffect s .clkCompute (endCommand .ok (clockResults c (beginCommand s)))
  | setSpeed {c : ClockPair} (target : numberOk s.a0 = true) (init : s.init = true) (claimed : s.claimed = true)
      (unselected : s.sel = false) (pair : clockDiv s.params.coreHz.toNat (numberVal s.a0) = some c) :
    CommandEffect s .setSpeed (endCommand .ok (clockResults c
      { rmw .cfg (clockMask s.params) (clkImg s.params c) (beginCommand s) with curClock := some c }))
  | modeCompute {cpha cpol lsb : Bool} :
    CommandEffect s (.modeCompute cpha cpol lsb) (endCommand .ok (modeResults ⟨cpha, cpol, lsb⟩ (beginCommand s)))
  | setMode {cpha cpol lsb : Bool} (init : s.init = true) (claimed : s.claimed = true) (unselected : s.sel = false) :
    CommandEffect s (.setMode cpha cpol lsb) (endCommand .ok (modeResults ⟨cpha, cpol, lsb⟩
      { rmw .cfg (modeMask s.params) (modeEnc s.params ⟨cpha, cpol, lsb⟩) (beginCommand s) with
        curMode := some ⟨cpha, cpol, lsb⟩ }))
  | resolve {cs : BitVec 3} {hasOut hasIn : Bool} (valid : cs.toNat ∈ s.params.validCs) :
    CommandEffect s (.resolve cs hasOut hasIn) (endCommand .ok
      (pathResults (pathOf s.params cs hasOut hasIn) (beginCommand s)))
  | xfer {beginSel endSel hasOut hasIn : Bool} (operands : xferOperandsOk hasOut hasIn s = true) (init : s.init = true)
      (claimed : s.claimed = true) :
    CommandEffect s (.xfer beginSel endSel hasOut hasIn) (goWith (bif beginSel then .selR else .body)
      (startXfer endSel hasOut hasIn (beginCommand s)) (beginCommand s))

/-- A command, or a word that spells none, ended at `s` with a status other than OK and no other effect. -/
def Refused (s t : State) : Prop := ∃ st, st ≠ .ok ∧ t = endCommand st (beginCommand s)

/-- A check that answers a next state refused the command, or passed and leaves the verdict to the rest of the command. -/
theorem check_cases {s t : State} {c P : Prop} [Decidable c] {st : Status} {rest : Host.Outcome State Fault Refusal}
    (hst : st ≠ .ok) (h : (if c then .next (endCommand st (beginCommand s)) else rest) = .next t)
    (hrest : ¬ c → rest = .next t → Refused s t ∨ P) : Refused s t ∨ P := by
  split at h
  · cases h
    exact .inl ⟨st, hst, rfl⟩
  · exact hrest ‹_› h

/-! One inversion per command with checks: each check in turn refuses, and past the last one the command has its effect. -/

theorem execSetup_cases {s t : State} (h : execSetup s = .next t) : Refused s t ∨ CommandEffect s .setup t := by
  refine check_cases (by decide) h fun hfree h => ?_
  cases h
  exact .inr (.setup (by simpa using hfree))

theorem execClaim_cases {cs : BitVec 3} {s t : State} (h : execClaim cs s = .next t) :
    Refused s t ∨ CommandEffect s (.claim cs) t := by
  refine check_cases (by decide) h fun hinit h => ?_
  refine check_cases (by decide) h fun hvalid h => ?_
  refine check_cases (by decide) h fun hfree h => ?_
  cases h
  exact .inr (.claim (by simpa using hinit) (by simpa using hvalid) (by simpa using hfree))

theorem execRelease_cases {s t : State} (h : execRelease s = .next t) : Refused s t ∨ CommandEffect s .release t := by
  refine check_cases (by decide) h fun hinit h => ?_
  refine check_cases (by decide) h fun hclaimed h => ?_
  refine check_cases (by decide) h fun hsel h => ?_
  cases h
  exact .inr (.release (by simpa using hinit) (by simpa using hclaimed) (by simpa using hsel))

theorem execClkCompute_cases {s t : State} (h : execClkCompute s = .next t) :
    Refused s t ∨ CommandEffect s .clkCompute t := by
  refine check_cases (by decide) h fun hok h => ?_
  have ⟨hcore, htarget⟩ : numberOk s.a0 = true ∧ numberOk s.a1 = true := by simpa using hok
  split at h <;> cases h
  · exact .inl ⟨_, by decide, rfl⟩
  · exact .inr (.clkCompute hcore htarget ‹_›)

theorem execSetSpeed_cases {s t : State} (h : execSetSpeed s = .next t) : Refused s t ∨ CommandEffect s .setSpeed t := by
  refine check_cases (by decide) h fun htarget h => ?_
  refine check_cases (by decide) h fun hinit h => ?_
  refine check_cases (by decide) h fun hclaimed h => ?_
  refine check_cases (by decide) h fun hsel h => ?_
  split at h <;> cases h
  · exact .inl ⟨_, by decide, rfl⟩
  · exact .inr (.setSpeed (by simpa using htarget) (by simpa using hinit) (by simpa using hclaimed) (by simpa using hsel) ‹_›)

theorem execSetMode_cases {cpha cpol lsb : Bool} {s t : State} (h : execSetMode cpha cpol lsb s = .next t) :
    Refused s t ∨ CommandEffect s (.setMode cpha cpol lsb) t := by
  refine check_cases (by decide) h fun hinit h => ?_
  refine check_cases (by decide) h fun hclaimed h => ?_
  refine check_cases (by decide) h fun hsel h => ?_
  cases h
  exact .inr (.setMode (by simpa using hinit) (by simpa using hclaimed) (by simpa using hsel))

theorem execResolve_cases {cs : BitVec 3} {hasOut hasIn : Bool} {s t : State} (h : execResolve cs hasOut hasIn s = .next t) :
    Refused s t ∨ CommandEffect s (.resolve cs hasOut hasIn) t := by
  refine check_cases (by decide) h fun hvalid h => ?_
  cases h
  exact .inr (.resolve (by simpa using hvalid))

theorem execXfer_cases {beginSel endSel hasOut hasIn : Bool} {s t : State}
    (h : execXfer beginSel endSel hasOut hasIn s = .next t) :
    Refused s t ∨ CommandEffect s (.xfer beginSel endSel hasOut hasIn) t := by
  refine check_cases (by decide) h fun hoperands h => ?_
  refine check_cases (by decide) h fun hinit h => ?_
  refine check_cases (by decide) h fun hclaimed h => ?_
  cases h
  exact .inr (.xfer (by simpa [xferOperandsOk] using hoperands) (by simpa using hinit) (by simpa using hclaimed))

/-- Every command that answers a next state is refused or has its effect. -/
theorem exec_cases {i : Instr} {s t : State} (h : exec i s = .next t) : Refused s t ∨ CommandEffect s i t := by
  cases i with
  | setup => exact execSetup_cases h
  | claim cs => exact execClaim_cases h
  | release => exact execRelease_cases h
  | clkCompute => exact execClkCompute_cases h
  | setSpeed => exact execSetSpeed_cases h
  | modeCompute cpha cpol lsb =>
    cases h
    exact .inr .modeCompute
  | setMode cpha cpol lsb => exact execSetMode_cases h
  | resolve cs hasOut hasIn => exact execResolve_cases h
  | xfer beginSel endSel hasOut hasIn => exact execXfer_cases h

/-- What one state of a transfer other than P_TMO and DONE does to the machine around the working values: at most one access
(spec/43_transfer.md R171), with SEL for the writes of SELECT and DESELECT. -/
inductive AtMostOneAccess (s : State) : State → Prop
  | none : AtMostOneAccess s s
  | regRead (r : Reg) : AtMostOneAccess s (regRead r s)
  | regWrite (r : Reg) (v : Word) : AtMostOneAccess s (regWrite r v s)
  | selWrite (v : Word) (b : Bool) : AtMostOneAccess s { Machine.regWrite .ctrl v s with sel := b }
  | memRead (a : Nat) (v : Byte) : AtMostOneAccess s (emit (.memRead a v) s)
  | memWrite (a : Nat) (v : Byte) : AtMostOneAccess s (emit (.memWrite a v) { s with mem := memPut s.mem a v })
  | winWrite (a size : Nat) (v : Word) : AtMostOneAccess s (winWrite a size v s)

/-- A state of a transfer other than P_TMO and DONE makes at most one access and goes to a state of the transfer. -/
theorem xferStep_access {st : XferState} {s t : State} (htmo : st ≠ .pTmo) (hdone : st ≠ .done)
    (h : xferStep st s = .next t) : ∃ nxt x u, AtMostOneAccess s u ∧ t = goWith nxt x u := by
  cases st with
  | selR | dselR => cases h; exact ⟨_, _, _, .regRead .ctrl, rfl⟩
  | selW => cases h; exact ⟨_, _, _, .selWrite _ true, rfl⟩
  | dselW => cases h; exact ⟨_, _, _, .selWrite _ false, rfl⟩
  | pLenR => cases h; exact ⟨_, _, _, .regRead .cfg, rfl⟩
  | pLenW => cases h; exact ⟨_, _, _, .regWrite .cfg _, rfl⟩
  | pClrR | pPoll => cases h; exact ⟨_, _, _, .regRead .cause, rfl⟩
  | pClrW => cases h; exact ⟨_, _, _, .regWrite .cause _, rfl⟩
  | pOutW => cases h; exact ⟨_, _, _, .regWrite .dout _, rfl⟩
  | pInR => cases h; exact ⟨_, _, _, .regRead .din, rfl⟩
  | pAdv => cases h; exact ⟨_, _, _, .none, rfl⟩
  | dWW | dBw => cases h; exact ⟨_, _, _, .winWrite _ _ _, rfl⟩
  | body | pTest | tail =>
    cases h
    simp only [stepBody, stepPTest, stepTail]
    split <;> exact ⟨_, _, _, .none, rfl⟩
  | dTest =>
    cases h
    unfold stepDTest
    split
    · exact ⟨_, _, _, .none, rfl⟩
    · split <;> exact ⟨_, _, _, .none, rfl⟩
  | pOutB0 | pOutB1 =>
    simp only [xferStep, stepPOutB0, stepPOutB1] at h
    split at h
    · cases h
      exact ⟨_, _, _, .none, rfl⟩
    · obtain ⟨-, h⟩ := memLoad_next h
      cases h
      exact ⟨_, _, _, .memRead _ _, rfl⟩
  | pInB0 | pInB1 =>
    simp only [xferStep, stepPInB0, stepPInB1] at h
    split at h
    · cases h
      exact ⟨_, _, _, .none, rfl⟩
    · obtain ⟨-, h⟩ := memStore_next h
      cases h
      exact ⟨_, _, _, .memWrite _ _, rfl⟩
  | dRd0 | dRd1 | dRd2 | dRd3 | dBrd =>
    simp only [xferStep, stepDRd, stepDBrd] at h
    obtain ⟨-, h⟩ := memLoad_next h
    cases h
    exact ⟨_, _, _, .memRead _ _, rfl⟩
  | pTmo => exact absurd rfl htmo
  | done => exact absurd rfl hdone

end Sys2Proof.Machine
end

section
/-! The inversion of `step` over the effects of its agents, what each of them keeps, and the statements about the internal state
that follow: who moves (O8), who claims (O34), who counts timeouts (O46) and who sets VIOLATION (O37). -/

namespace Sys2Proof.Machine

/-- Everything a step can do, by the agent that acts. -/
inductive StepEffect (s t : State) : Prop
  | host (idle : s.fsm = .idle) (move : hostStep s = .next t)
  | refused (check : s.fsm = .check) (refusal : Refused s t)
  | command {i : Instr} (check : s.fsm = .check) (spelled : decode s.cmd = .ok i) (effect : CommandEffect s i t)
  | transfer {st nxt : XferState} {x : Xfer} {u : State} (running : s.fsm = .xfer st) (untimed : st ≠ .pTmo)
      (unfinished : st ≠ .done) (access : AtMostOneAccess s u) (result : t = goWith nxt x u)
  | timeout (running : s.fsm = .xfer .pTmo) (result : t = stepPTmo s)
  | done (running : s.fsm = .xfer .done) (result : t = stepDone s)

theorem step_effect {s t : State} (h : step s = .next t) : StepEffect s t := by
  obtain ⟨-, ⟨hidle, hmove⟩ | ⟨hcheck, -, ht⟩ | ⟨hcheck, i, hi, hexec⟩ | ⟨st, hst, hstep⟩⟩ := step_cases h
  · exact .host hidle hmove
  · exact .refused hcheck ⟨.reservedCommand, by decide, ht⟩
  · exact (exec_cases hexec).elim (.refused hcheck) (.command hcheck hi)
  · by_cases htmo : st = .pTmo
    · subst htmo
      cases hstep
      exact .timeout hst rfl
    by_cases hdone : st = .done
    · subst hdone
      cases hstep
      exact .done hst rfl
    obtain ⟨nxt, x, u, haccess, ht⟩ := xferStep_access htmo hdone hstep
    exact .transfer hst htmo hdone haccess ht

/-- The host's side of the machine is the same (spec/10_state.md R26, R27). -/
structure SameInputs (s t : State) : Prop where
  host : t.host = s.host
  a0 : t.a0 = s.a0
  a1 : t.a1 = s.a1
  a2 : t.a2 = s.a2
  cmd : t.cmd = s.cmd

/-- The configuration and the internal state of R20, but SEL and FSM, are the same. -/
structure SameInternal (s t : State) : Prop where
  params : t.params = s.params
  init : t.init = s.init
  claimed : t.claimed = s.claimed
  claimedCs : t.claimedCs = s.claimedCs
  curClock : t.curClock = s.curClock
  curMode : t.curMode = s.curMode
  timeoutTotal : t.timeoutTotal = s.timeoutTotal
  violation : t.violation = s.violation
  diag : t.diag = s.diag

/-- A host move, taken off the list, writes no internal state. -/
theorem hostMove_sameInternal {m : HostMove} {rest : List HostMove} {s t : State}
    (h : hostMove m { s with host := rest } = .next t) : SameInternal s t := by
  cases m with
  | writeA k v =>
    cases h
    match k with
    | 0 | 1 | 2 => constructor <;> rfl
  | writeCmd w =>
    cases h
    constructor <;> rfl
  | writeMem a v =>
    simp only [hostMove] at h
    split at h <;> cases h
    constructor <;> rfl
  | writeReg r v =>
    simp only [hostMove] at h
    split at h <;> cases h
    cases r <;> constructor <;> rfl

/-- The host writes no internal state. -/
theorem hostStep_sameInternal {s t : State} (h : hostStep s = .next t) : SameInternal s t := by
  unfold hostStep at h
  split at h
  · cases h
    constructor <;> rfl
  · exact hostMove_sameInternal h

namespace AtMostOneAccess

variable {s u t : State} {nxt : XferState} {x : Xfer} (h : AtMostOneAccess s u) (ht : t = goWith nxt x u)
include h ht

/-- A state of a transfer that makes at most one access writes nothing of the host's side. -/
theorem sameInputs : SameInputs s t := by
  subst ht
  cases h with
  | regRead r | regWrite r v => cases r <;> constructor <;> simp
  | none | selWrite | memRead | memWrite | winWrite => constructor <;> simp

/-- Nor does it write internal state other than SEL and FSM. -/
theorem sameInternal : SameInternal s t := by
  subst ht
  cases h with
  | regRead r | regWrite r v => cases r <;> constructor <;> simp
  | none | selWrite | memRead | memWrite | winWrite => constructor <;> simp

end AtMostOneAccess

/-- The path is answered in the result registers alone. -/
theorem pathResults_eq (path : Path) (s : State) :
    pathResults path s = setResults (pathResults path s).r1 (pathResults path s).r2 (pathResults path s).r3 s := by
  cases path <;> rfl

namespace CommandEffect

variable {s t : State} {i : Instr} (h : CommandEffect s i t)
include h

/-- No command writes the host's side (R26, R27). -/
theorem sameInputs : SameInputs s t := by
  cases h with
  | resolve =>
    rw [pathResults_eq]
    constructor <;> simp
  | _ => constructor <;> simp [clockResults, modeResults, rmw_cfg]

/-- The three fields of R20 that no command's effect writes: TIMEOUT_TOTAL and DIAG, and VIOLATION, which only refusals set. -/
theorem keeps_records : t.timeoutTotal = s.timeoutTotal ∧ t.diag = s.diag ∧ t.violation = s.violation := by
  cases h with
  | resolve =>
    rw [pathResults_eq]
    simp [isViolation]
  | _ => simp [clockResults, modeResults, rmw_cfg, isViolation]

/-- A command whose effect ends it ends with OK. -/
theorem ends_ok (hend : t.fsm = .idle) : t.r0 = 0 := by
  cases h with
  | xfer => simp at hend
  | _ => simp [statusCode]

/-- Only CLAIM and RELEASE change the claim (R224, R227). -/
theorem claim_cases : t.claimed = s.claimed ∨ (∃ cs, i = .claim cs ∧ t.claimed = true ∧ t.claimedCs = some cs) ∨
    (i = .release ∧ t.claimed = false ∧ t.claimedCs = none) := by
  cases h with
  | claim => exact .inr (.inl ⟨_, rfl, by simp, by simp⟩)
  | release => exact .inr (.inr ⟨rfl, by simp, by simp⟩)
  | resolve =>
    rw [pathResults_eq]
    simp
  | _ => simp [clockResults, modeResults, rmw_cfg]

/-- Only SET_SPEED writes CUR_CLOCK (R127). -/
theorem curClock_cases : t.curClock = s.curClock ∨ (i = .setSpeed ∧ t.r0 = 0) := by
  cases h with
  | setSpeed => simp [statusCode]
  | resolve =>
    rw [pathResults_eq]
    simp
  | _ => simp [clockResults, modeResults, rmw_cfg]

/-- Only SET_MODE writes CUR_MODE (R145). -/
theorem curMode_cases : t.curMode = s.curMode ∨ ∃ h l b, i = .setMode h l b := by
  cases h with
  | setMode => exact .inr ⟨_, _, _, rfl⟩
  | resolve =>
    rw [pathResults_eq]
    simp
  | _ => simp [clockResults, modeResults, rmw_cfg]

end CommandEffect

/-- Every agent but the host keeps the host's side. -/
theorem step_sameInputs {s t : State} (hbusy : s.fsm ≠ .idle) (h : step s = .next t) : SameInputs s t := by
  cases step_effect h with
  | host idle => exact absurd idle hbusy
  | refused _ refusal =>
    obtain ⟨st, -, rfl⟩ := refusal
    constructor <;> rfl
  | command _ _ effect => exact effect.sameInputs
  | transfer _ _ _ access result => exact access.sameInputs result
  | timeout _ result | done _ result =>
    subst result
    constructor <;> rfl

/-- Settles O8: out of IDLE the host does not act, and the other agents keep its side. -/
theorem hostIsBlockedDuringACommand : Obligations.HostIsBlockedDuringACommand := by
  intro s t hbusy h
  obtain ⟨hhost, ha0, ha1, ha2, hcmd⟩ := step_sameInputs hbusy h
  exact ⟨hhost, ha0, ha1, ha2, hcmd⟩

/-- The claim and the shadows change by the effect of a command alone. -/
theorem step_claim_and_shadows {s t : State} (h : step s = .next t) :
    (t.claimed = s.claimed ∧ t.curClock = s.curClock ∧ t.curMode = s.curMode) ∨
      (s.fsm = .check ∧ ∃ i, decode s.cmd = .ok i ∧ CommandEffect s i t) := by
  cases step_effect h with
  | host _ move =>
    have hsame := hostStep_sameInternal move
    exact .inl ⟨hsame.claimed, hsame.curClock, hsame.curMode⟩
  | refused _ refusal =>
    obtain ⟨st, -, rfl⟩ := refusal
    exact .inl ⟨rfl, rfl, rfl⟩
  | command check spelled effect => exact .inr ⟨check, _, spelled, effect⟩
  | transfer _ _ _ access result =>
    have hsame := access.sameInternal result
    exact .inl ⟨hsame.claimed, hsame.curClock, hsame.curMode⟩
  | timeout _ result | done _ result =>
    subst result
    exact .inl ⟨rfl, rfl, rfl⟩

/-- Settles O34: the claim changes only by the effect of a command, and of the commands CLAIM alone sets it and RELEASE alone clears
it. -/
theorem onlyClaimClaimsAndReleaseReleases : Obligations.OnlyClaimClaimsAndReleaseReleases := by
  intro s t h
  obtain ⟨heq, -⟩ | ⟨hcheck, i, hi, heffect⟩ := step_claim_and_shadows h
  · simp +contextual [heq]
  · obtain heq | ⟨cs, rfl, h1, hcs⟩ | ⟨rfl, h0, hcs⟩ := heffect.claim_cases
    · simp +contextual [heq]
    · exact ⟨fun _ _ => ⟨hcheck, cs, hi, hcs⟩, by simp [h1]⟩
    · exact ⟨by simp [h0], fun _ _ => ⟨hcheck, hi, hcs⟩⟩

/-- Settles O46: P_TMO records the timeout, and every other step keeps both records. -/
theorem timeoutsAreCountedOnlyByTimeouts : Obligations.TimeoutsAreCountedOnlyByTimeouts := by
  intro s t h
  cases step_effect h with
  | host idle move =>
    have hsame := hostStep_sameInternal move
    exact ⟨fun _ => ⟨hsame.timeoutTotal, hsame.diag⟩, by simp [idle]⟩
  | refused check refusal =>
    obtain ⟨st, -, rfl⟩ := refusal
    exact ⟨fun _ => ⟨rfl, rfl⟩, by simp [check]⟩
  | command check _ effect =>
    obtain ⟨htotal, hdiag, -⟩ := effect.keeps_records
    exact ⟨fun _ => ⟨htotal, hdiag⟩, by simp [check]⟩
  | transfer running untimed _ access result =>
    have hsame := access.sameInternal result
    exact ⟨fun _ => ⟨hsame.timeoutTotal, hsame.diag⟩, by simp [running, untimed]⟩
  | timeout running result =>
    subst result
    exact ⟨fun hne => absurd running hne, fun _ => ⟨rfl, rfl⟩⟩
  | done running result =>
    subst result
    exact ⟨fun _ => ⟨rfl, rfl⟩, by simp [running]⟩

/-- The contract-violation statuses are those with a code of at least 5 (spec/60_exceptions.md R243). -/
theorem isViolation_iff (st : Status) : isViolation st = true ↔ 5 ≤ (statusCode st).toNat := by
  cases st <;> decide

/-- A host move keeps VIOLATION; a step out of IDLE ends the command with a status, which sets VIOLATION where it is a violation,
or keeps VIOLATION and does not end the command with a status other than OK. -/
theorem step_violation_cases {s t : State} (h : step s = .next t) :
    (s.fsm = .idle ∧ t.violation = s.violation) ∨
      (s.fsm ≠ .idle ∧ ∃ st u, t = endCommand st u ∧ u.violation = s.violation) ∨
      (t.violation = s.violation ∧ (t.fsm = .idle → t.r0 = 0)) := by
  cases step_effect h with
  | host idle move => exact .inl ⟨idle, (hostStep_sameInternal move).violation⟩
  | refused check refusal =>
    obtain ⟨st, -, rfl⟩ := refusal
    exact .inr (.inl ⟨by simp [check], st, _, rfl, rfl⟩)
  | command _ _ effect =>
    obtain ⟨-, -, hkept⟩ := effect.keeps_records
    exact .inr (.inr ⟨hkept, effect.ends_ok⟩)
  | transfer _ _ _ access result =>
    exact .inr (.inr ⟨(access.sameInternal result).violation, fun hend => by simp [result] at hend⟩)
  | timeout _ result =>
    subst result
    exact .inr (.inr ⟨rfl, fun hend => by simp [stepPTmo] at hend⟩)
  | done running result => exact .inr (.inl ⟨by simp [running], _, _, result, rfl⟩)

/-- Settles O37: the host keeps VIOLATION, and the end of a command joins it with the verdict on its status. -/
theorem violationIsStickyAndExact : Obligations.ViolationIsStickyAndExact := by
  intro s t h
  obtain ⟨hidle, hkept⟩ | ⟨hbusy, st, u, rfl, hu⟩ | ⟨hkept, hok⟩ := step_violation_cases h
  · simp [hkept, hidle]
  · simp [hbusy, hu, isViolation_iff]
  · have hnone : ¬ (t.fsm = .idle ∧ 5 ≤ t.r0.toNat) := by
      rintro ⟨hend, hcode⟩
      simp [hok hend] at hcode
    simp [hkept, hnone]

end Sys2Proof.Machine
end

section
/-! CUR_CLOCK and CUR_MODE are shadows: no agent reads them (O35; spec/10_state.md R22). Two outcomes are related when they differ
in the shadows alone, and every operation of the model keeps the relation. -/

namespace Sys2Proof.Machine

/-- `s` with other shadow values. -/
def withShadows (x : Option ClockPair) (m : Option ModeFlags) (s : State) : State := { s with curClock := x, curMode := m }

/-- The two outcomes are the same but for the shadows of the next state. -/
inductive SameButShadows : Host.Outcome State Fault Refusal → Host.Outcome State Fault Refusal → Prop
  | next (t : State) (x : Option ClockPair) (m : Option ModeFlags) : SameButShadows (.next t) (.next (withShadows x m t))
  | fault (f : Fault) : SameButShadows (.fault f) (.fault f)
  | refused (r : Refusal) : SameButShadows (.refused r) (.refused r)

section
variable (x : Option ClockPair) (m : Option ModeFlags) (s : State)

@[simp] theorem withShadows_params : (withShadows x m s).params = s.params := rfl
@[simp] theorem withShadows_fsm : (withShadows x m s).fsm = s.fsm := rfl
@[simp] theorem withShadows_cmd : (withShadows x m s).cmd = s.cmd := rfl
@[simp] theorem withShadows_host : (withShadows x m s).host = s.host := rfl
@[simp] theorem withShadows_xfer : (withShadows x m s).xfer = s.xfer := rfl
@[simp] theorem withShadows_a0 : (withShadows x m s).a0 = s.a0 := rfl
@[simp] theorem withShadows_a1 : (withShadows x m s).a1 = s.a1 := rfl

end

namespace SameButShadows

theorem ite {c : Prop} [Decidable c] {a b a' b' : Host.Outcome State Fault Refusal} (ha : SameButShadows a a')
    (hb : SameButShadows b b') : SameButShadows (if c then a else b) (if c then a' else b') := by
  split
  · exact ha
  · exact hb

theorem next_ite {c : Prop} [Decidable c] {a b a' b' : State} (ha : SameButShadows (.next a) (.next a'))
    (hb : SameButShadows (.next b) (.next b')) :
    SameButShadows (.next (if c then a else b)) (.next (if c then a' else b')) := by
  split
  · exact ha
  · exact hb

/-- A step related to one that answers a next state answers that state with some shadows. -/
theorem next_inv {t : State} {o : Host.Outcome State Fault Refusal} (h : SameButShadows (.next t) o) :
    ∃ x m, o = .next (withShadows x m t) := by
  cases h
  exact ⟨_, _, rfl⟩

section
variable {x : Option ClockPair} {m : Option ModeFlags} {s : State}

/-- The end of a command that a check refuses reads no shadow. -/
theorem check {c : Prop} [Decidable c] {st : Status} {rest rest' : Host.Outcome State Fault Refusal}
    (hrest : SameButShadows rest rest') :
    SameButShadows (if c then .next (endCommand st (beginCommand s)) else rest)
      (if c then .next (endCommand st (beginCommand (withShadows x m s))) else rest') :=
  .ite (.next _ x m) hrest

theorem memLoad {a : Nat} {k k' : Byte → State → Host.Outcome State Fault Refusal}
    (hk : ∀ b u, SameButShadows (k b u) (k' b (withShadows x m u))) :
    SameButShadows (Machine.memLoad a s k) (Machine.memLoad a (withShadows x m s) k') :=
  .ite (hk _ _) (.fault _)

theorem memStore {a : Nat} {v : Byte} {k k' : State → Host.Outcome State Fault Refusal}
    (hk : ∀ u, SameButShadows (k u) (k' (withShadows x m u))) :
    SameButShadows (Machine.memStore a v s k) (Machine.memStore a v (withShadows x m s) k') :=
  .ite (hk _) (.fault _)

end

end SameButShadows

section
variable (x : Option ClockPair) (m : Option ModeFlags) (s : State)

theorem exec_sameButShadows (i : Instr) : SameButShadows (exec i s) (exec i (withShadows x m s)) := by
  cases i with
  | setup => exact .check (.next _ x m)
  | claim | release | setMode | xfer => exact .check (.check (.check (.next _ x _)))
  | clkCompute =>
    refine .check ?_
    simp only [beginCommand_a0, beginCommand_a1, withShadows_a0, withShadows_a1]
    cases clockDiv (numberVal s.a0) (numberVal s.a1) with
    | none | some c => exact .next _ x m
  | setSpeed =>
    refine .check (.check (.check (.check ?_)))
    simp only [beginCommand_params, beginCommand_a0, withShadows_params, withShadows_a0]
    cases clockDiv s.params.coreHz.toNat (numberVal s.a0) with
    | none => exact .next _ x m
    | some c => exact .next _ (some c) m
  | modeCompute cpha cpol lsb => exact .next _ x m
  | resolve cs hasOut hasIn =>
    refine .check ?_
    simp only [beginCommand_params, withShadows_params]
    cases pathOf s.params cs hasOut hasIn <;> exact .next _ x m

theorem xferStep_sameButShadows (st : XferState) : SameButShadows (xferStep st s) (xferStep st (withShadows x m s)) := by
  cases st with
  | selR | selW | pLenR | pLenW | pClrR | pClrW | pOutW | pPoll | pInR | pAdv | pTmo | dWW | dBw | dselR | dselW | done =>
    exact .next _ x m
  | pTest | tail =>
    simp only [xferStep, stepPTest, stepTail, withShadows_xfer]
    exact .next_ite (.next _ x m) (.next _ x m)
  | dTest =>
    simp only [xferStep, stepDTest, withShadows_xfer]
    exact .next_ite (.next _ x m) (.next_ite (.next _ x m) (.next _ x m))
  | body =>
    simp only [xferStep, stepBody, withShadows_xfer]
    cases s.xfer.path <;> exact .next _ x m
  | pOutB0 | pOutB1 =>
    simp only [xferStep, stepPOutB0, stepPOutB1, withShadows_xfer]
    cases s.xfer.op with
    | none => exact .next _ x m
    | some a =>
      refine .memLoad fun b u => ?_
      exact .next _ x m
  | pInB0 | pInB1 =>
    simp only [xferStep, stepPInB0, stepPInB1, withShadows_xfer]
    cases s.xfer.ip with
    | none => exact .next _ x m
    | some b =>
      refine .memStore fun u => ?_
      exact .next _ x m
  | dRd0 | dRd1 | dRd2 | dRd3 | dBrd =>
    simp only [xferStep, stepDRd, stepDBrd, withShadows_xfer, withShadows_params]
    refine .memLoad fun b u => ?_
    exact .next _ x m

theorem hostMove_sameButShadows (move : HostMove) :
    SameButShadows (hostMove move s) (hostMove move (withShadows x m s)) := by
  cases move with
  | writeA k v =>
    match k with
    | 0 | 1 | 2 => exact .next _ x m
  | writeCmd w => exact .next _ x m
  | writeMem a v => exact .ite (.next _ x m) (.fault _)
  | writeReg r v =>
    refine .ite (.fault _) ?_
    cases r <;> exact .next _ x m

theorem hostStep_sameButShadows : SameButShadows (hostStep s) (hostStep (withShadows x m s)) := by
  simp only [hostStep, withShadows_host]
  cases s.host with
  | nil => exact .next _ x m
  | cons move rest => exact hostMove_sameButShadows x m { s with host := rest } move

/-- No step reads a shadow: with other shadows it does the same to the rest of the machine, and stops where it stopped. -/
theorem step_sameButShadows : SameButShadows (step s) (step (withShadows x m s)) := by
  refine .ite ?_ (.refused _)
  simp only [withShadows_fsm, withShadows_cmd]
  cases s.fsm with
  | idle => exact hostStep_sameButShadows x m s
  | check =>
    cases decode s.cmd with
    | ok i => exact exec_sameButShadows x m s i
    | error e => exact .next _ x m
  | xfer st => exact xferStep_sameButShadows x m s st

end

/-- Settles O35: the shadows change only by the effect of a command, of which SET_SPEED and SET_MODE alone write them, and no step
reads them. -/
theorem shadowsAreWrittenOnlyBySetters : Obligations.ShadowsAreWrittenOnlyBySetters := by
  intro s t h
  refine ⟨fun hne => ?_, fun hne => ?_, fun x m => ?_⟩
  · obtain ⟨-, heq, -⟩ | ⟨hcheck, i, hi, heffect⟩ := step_claim_and_shadows h
    · exact absurd heq hne
    · obtain heq | ⟨rfl, hok⟩ := heffect.curClock_cases
      · exact absurd heq hne
      · exact ⟨hcheck, hi, hok⟩
  · obtain ⟨-, -, heq⟩ | ⟨hcheck, i, hi, heffect⟩ := step_claim_and_shadows h
    · exact absurd heq hne
    · obtain heq | ⟨cpha, cpol, lsb, rfl⟩ := heffect.curMode_cases
      · exact absurd heq hne
      · exact ⟨hcheck, cpha, cpol, lsb, hi⟩
  · exact (h ▸ step_sameButShadows x m s).next_inv

end Sys2Proof.Machine
end

section
/-! The field masks and images of the peripheral registers (O14, O15; spec/10_state.md R31, R32). -/

namespace Sys2Proof.Machine

/-- The check of a list of masks is pairwise disjointness. -/
theorem masksDisjoint_iff (l : List Word) : masksDisjoint l = true ↔ l.Pairwise fun a b => a &&& b = 0 := by
  induction l with
  | nil => simp [masksDisjoint]
  | cons a l ih => simp [masksDisjoint, ih]

/-- The masks that the commands write under an accepted configuration (R31). -/
theorem writtenMasks_disjoint {p : Params} (hwf : p.wf = true) :
    clockMask p &&& xferLenMask p = 0 ∧ clockMask p &&& modeMask p = 0 ∧ xferLenMask p &&& modeMask p = 0 ∧
      clockMask p &&& adrLenMask p = 0 ∧ xferLenMask p &&& adrLenMask p = 0 ∧ modeMask p &&& adrLenMask p = 0 := by
  obtain ⟨-, -, -, -, -, -, -, -, hcfg, -⟩ := wf_iff.1 hwf
  simp only [Params.cfgFieldsDisjoint, masksDisjoint_iff, List.pairwise_cons, List.forall_mem_cons] at hcfg
  rw [BitVec.and_comm (modeMask p) (adrLenMask p)]
  simp [clockMask, modeMask, BitVec.and_or_distrib_left, BitVec.and_or_distrib_right, hcfg]

/-- Settles O14: the fields of CFG are disjoint, and so are the unions of them; the default values are computed. -/
theorem writtenMasksAreDisjoint : Obligations.WrittenMasksAreDisjoint := by
  refine ⟨fun p hwf => writtenMasks_disjoint hwf, fun p hlayout => ?_⟩
  simp only [clockMask, modeMask, sppr0Mask, sppr21Mask, xferLenMask, adrLenMask, cpolMask, cphaMask, txLsbfMask, rxLsbfMask,
    hlayout]
  decide

/-- The image of a bit vector is the vector shifted into place. -/
theorem fieldImg_toNat {w : Nat} (pos : Nat) (v : BitVec w) : fieldImg pos v.toNat = v.setWidth 32 <<< pos := by
  apply BitVec.eq_of_toNat_eq
  simp [fieldImg, Nat.shiftLeft_eq]

/-- The clock image in terms of the bit fields of the pair (R32). -/
theorem clkImg_eq (p : Params) (c : ClockPair) :
    clkImg p c = fieldImg 0 c.spr.toNat ||| fieldImg p.layout.sppr0 (c.sppr.extractLsb' 0 1).toNat |||
      fieldImg p.layout.sppr21 (c.sppr.extractLsb' 1 2).toNat := by
  have h0 : (c.sppr.extractLsb' 0 1).toNat = c.sppr.toNat % 2 := by simp
  have h21 : (c.sppr.extractLsb' 1 2).toNat = c.sppr.toNat / 2 := by
    have := c.sppr.isLt
    simp only [BitVec.extractLsb'_toNat, Nat.shiftRight_eq_div_pow]
    omega
  rw [clkImg, h0, h21]

/-- Settles O15: with the default positions each image is a shift. -/
theorem clockImageOfAPair : Obligations.ClockImageOfAPair := by
  intro p c
  refine ⟨clkImg_eq p c, fun hlayout => ?_⟩
  rw [clkImg_eq, hlayout]
  simp only [fieldImg_toNat, BitVec.shiftLeft_zero]

end Sys2Proof.Machine
end

section
/-! Reset and the host's moves in IDLE (O11, O7; spec/10_state.md R26, R38, R46). -/

namespace Sys2Proof.Machine

/-- Settles O11: the launch state has these values whatever the parameters. -/
theorem resetClearsInternalState : Obligations.ResetClearsInternalState := by
  intro p
  refine ⟨State.launch p, rfl, ?_⟩
  simp [State.launch]

/-- In IDLE a step is the host's. -/
theorem step_idle {s : State} (hwf : s.params.wf = true) (hidle : s.fsm = .idle) : step s = hostStep s := by
  simp [step, hwf, hidle]

/-- In IDLE a step is the host's next move. -/
theorem step_idle_cons {s : State} {m : HostMove} {rest : List HostMove} (hwf : s.params.wf = true) (hidle : s.fsm = .idle)
    (hhost : s.host = m :: rest) : step s = hostMove m { s with host := rest } := by
  simp [step_idle hwf hidle, hostStep, hhost]

/-- Settles O7: the next move is taken off the list and made; a stored byte is read back from a canonical memory. -/
theorem idleStepIsTheHostsMove : Obligations.IdleStepIsTheHostsMove := by
  intro s hwf hmem hidle
  have hstep {m rest} (hhost : s.host = m :: rest) := step_idle_cons hwf hidle hhost
  refine ⟨fun hhost => ?_, fun w rest hhost => hstep hhost, fun v rest hhost => hstep hhost, fun v rest hhost => hstep hhost,
    fun v rest hhost => hstep hhost, fun a v rest hhost ha => ?_, fun a v rest hhost ha => ?_, fun r v rest hhost hfree => ?_,
    fun r v rest hhost hclaimed => ?_⟩
  · simp [step_idle hwf hidle, hostStep, hhost]
  · refine ⟨{ s with host := rest, mem := memPut s.mem a v }, ?_, memGet_memPut a v hmem,
      fun b hb => memGet_memPut_of_ne s.mem v hb, rfl⟩
    simp [hstep hhost, hostMove, ha]
  · simp [hstep hhost, hostMove, Nat.not_lt.2 ha]
  · cases r <;> simp [hstep hhost, hostMove, hfree]
  · simp [hstep hhost, hostMove, hclaimed]

end Sys2Proof.Machine
end

section
/-! When a running command is stuck (O50; spec/20_memory.md R61). -/

namespace Sys2Proof.Machine

/-- The outcome of a step that would answer `t`, by the host-memory byte it accesses, if it accesses one. -/
def afterAccess (p : Params) (byte : Option Nat) (t : State) : Host.Outcome State Fault Refusal :=
  match byte with
  | none => .next t
  | some a => if admits p a then .next t else .fault (.stuckHostMem a)

/-- The check of a command, or the end of one that a check refuses, is a next state. -/
theorem check_next {c : Prop} [Decidable c] {u : State} {rest : Host.Outcome State Fault Refusal} (hrest : ∃ t, rest = .next t) :
    ∃ t, (if c then .next u else rest) = .next t := by
  split
  · exact ⟨_, rfl⟩
  · exact hrest

/-- Every command has a next state: its statuses are its only errors (spec/60_exceptions.md R240). -/
theorem exec_next (i : Instr) (s : State) : ∃ t, exec i s = .next t := by
  cases i with
  | modeCompute => exact ⟨_, rfl⟩
  | setup | resolve => exact check_next ⟨_, rfl⟩
  | claim | release | setMode | xfer => exact check_next (check_next (check_next ⟨_, rfl⟩))
  | clkCompute =>
    refine check_next ?_
    split <;> exact ⟨_, rfl⟩
  | setSpeed =>
    refine check_next (check_next (check_next (check_next ?_)))
    split <;> exact ⟨_, rfl⟩

/-- A state of a transfer has a next state, unless the byte it accesses is outside `HOST_MEM`. -/
theorem xferStep_afterAccess {s : State} {st : XferState} (hfsm : s.fsm = .xfer st) :
    ∃ t, xferStep st s = afterAccess s.params (accessedByte s) t := by
  unfold accessedByte
  rw [hfsm]
  cases st with
  | pOutB0 | pOutB1 =>
    simp only [xferStep, stepPOutB0, stepPOutB1]
    cases s.xfer.op <;> exact ⟨_, rfl⟩
  | pInB0 | pInB1 =>
    simp only [xferStep, stepPInB0, stepPInB1]
    cases s.xfer.ip <;> exact ⟨_, rfl⟩
  | _ => exact ⟨_, rfl⟩

/-- A running command has a next state, unless the byte it accesses is outside `HOST_MEM`. -/
theorem step_afterAccess {s : State} (hwf : s.params.wf = true) (hbusy : s.fsm ≠ .idle) :
    ∃ t, step s = afterAccess s.params (accessedByte s) t := by
  cases hfsm : s.fsm with
  | idle => exact absurd hfsm hbusy
  | check =>
    have hnone : accessedByte s = none := by simp [accessedByte, hfsm]
    rw [hnone]
    cases hdecode : decode s.cmd with
    | ok i => exact step_check hwf hfsm hdecode ▸ exec_next i s
    | error e => exact ⟨reservedCommand s, by simp [step, hwf, hfsm, hdecode, afterAccess]⟩
  | xfer st => exact step_xfer hwf hfsm ▸ xferStep_afterAccess hfsm

/-- Settles O50: the byte accessed next decides the outcome. -/
theorem stuckOnlyOutsideHostMemory : Obligations.StuckOnlyOutsideHostMemory := by
  intro s hwf hbusy
  obtain ⟨t, ht⟩ := step_afterAccess hwf hbusy
  rw [ht]
  cases accessedByte s with
  | none => simp [afterAccess]
  | some a => simp +contextual [afterAccess]

end Sys2Proof.Machine
end

section
/-! A polled word, part by part: its launch, its polls, its timeout and its input (spec/43_transfer.md R177 to R183). -/

namespace Sys2Proof.Machine

/-- One state of a transfer, then the rest. -/
theorem Reaches.head {s t u : State} {st : XferState} (hwf : s.params.wf = true) (hfsm : s.fsm = .xfer st)
    (h : xferStep st s = .next t) (hrest : Reaches t u) : Reaches s u :=
  (Reaches.step (step_xfer hwf hfsm ▸ h)).trans hrest

/-- The first byte of a buffer, in `HOST_MEM` at the cursor itself. -/
theorem admits_first {p : Params} {a : Nat} {w : Width} (h : bufferAdmitted p (some a) (widthBytes w)) (ha : a < 2 ^ p.addrW) :
    admits p a = true := by
  have h0 := h a rfl 0 (by cases w <;> decide)
  rwa [addrAdd_zero ha] at h0

/-- The second byte of a halfword, in `HOST_MEM` one above the cursor. -/
theorem admits_second {p : Params} {a : Nat} (h : bufferAdmitted p (some a) (widthBytes .two)) :
    admits p (addrAdd p a 1) = true :=
  h a rfl 1 (by decide)

/-- At P_TEST with a word to send: more than 4 bits remain, and the output bytes are in `HOST_MEM` (R175, R177, R179). -/
structure WordReady (s : State) : Prop where
  wf : s.params.wf = true
  at_test : s.fsm = .xfer .pTest
  bits_left : 4 < s.xfer.rem
  running : s.xfer.stop = false
  out_cursor : ∀ a, s.xfer.op = some a → a < 2 ^ s.params.addrW
  out_admitted : bufferAdmitted s.params s.xfer.op (widthBytes (widthFor s.xfer.rem))

/-- From P_TEST past P_CLR_W: XFERLEN is set for the word's width and WC is cleared (R177, R178). -/
def cleared (s : State) : State :=
  { s with
    fsm := .xfer (if s.xfer.op.isSome then .pOutB0 else .pOutW)
    cfg := lenValue s.params (widthFor s.xfer.rem) s.cfg
    cause := rmwValue (causeDraw s s.causeReads) (wcMask s.params) 0
    causeReads := s.causeReads + 1
    xfer := { s.xfer with w := widthFor s.xfer.rem, t := causeDraw s s.causeReads, word := 0 }
    trace := s.trace ++
      [.regRead .cfg (regAddr s.params .cfg) s.cfg,
        .regWrite .cfg (regAddr s.params .cfg) (lenValue s.params (widthFor s.xfer.rem) s.cfg),
        .regRead .cause (regAddr s.params .cause) (causeDraw s s.causeReads),
        .regWrite .cause (regAddr s.params .cause) (rmwValue (causeDraw s s.causeReads) (wcMask s.params) 0)] }

theorem reaches_cleared {s : State} (h : WordReady s) : Reaches s (cleared s) := by
  refine ⟨5, ?_⟩
  simp [run, step, h.wf, h.at_test, xferStep, stepPTest, h.bits_left, h.running, stepPLenR, stepPLenW, stepPClrR, stepPClrW,
    goTo, goWith, emit, cleared, causeDraw]

/-- From there past P_OUT_W: the output word is assembled from the buffer's bytes and written to DOUT (R179). -/
def sent (s : State) : State :=
  { s with
    fsm := .xfer .pPoll
    dout := (outWord s.params s.mem s.xfer.op s.xfer.w).setWidth 32
    xfer := { s.xfer with word := outWord s.params s.mem s.xfer.op s.xfer.w, n := 0 }
    trace := s.trace ++ outReads s.params s.mem s.xfer.op s.xfer.w ++
      [.regWrite .dout (regAddr s.params .dout) ((outWord s.params s.mem s.xfer.op s.xfer.w).setWidth 32)] }

theorem reaches_sent {s : State} (hwf : s.params.wf = true)
    (hfsm : s.fsm = .xfer (if s.xfer.op.isSome then .pOutB0 else .pOutW)) (hword : s.xfer.word = 0)
    (hcursor : ∀ a, s.xfer.op = some a → a < 2 ^ s.params.addrW)
    (hbuffer : bufferAdmitted s.params s.xfer.op (widthBytes s.xfer.w)) : Reaches s (sent s) := by
  cases hop : s.xfer.op with
  | none =>
    rw [hop] at hfsm
    refine ⟨1, ?_⟩
    simp [run, step_xfer hwf hfsm, xferStep, stepPOutW, goWith, emit, sent, outWord, outReads, hop, hword]
  | some a =>
    rw [hop] at hbuffer hfsm
    have hfirst := admits_first hbuffer (hcursor a hop)
    cases hw : s.xfer.w with
    | one =>
      refine ⟨2, ?_⟩
      simp [run, step, hwf, hfsm, xferStep, stepPOutB0, memLoad_admitted hfirst, stepPOutW, goWith, emit, sent, outWord,
        outReads, hop, hw]
    | two =>
      rw [hw] at hbuffer
      have hsecond := admits_second hbuffer
      refine ⟨3, ?_⟩
      simp [run, step, hwf, hfsm, xferStep, stepPOutB0, stepPOutB1, memLoad_admitted, hfirst, hsecond, stepPOutW, goWith,
        emit, sent, outWord, outReads, hop, hw]

/-- Where poll number `q + 1` leads (R181). -/
def afterPoll (q : Nat) (s : State) : XferState :=
  if wcSet s.params (causeDraw s (s.causeReads + q)) then (if s.xfer.ip.isSome then .pInR else .pAdv)
  else if s.xfer.n + q + 1 < s.params.pollBound then .pPoll else .pTmo

/-- `q + 1` polls have been made (R181). -/
def polled (q : Nat) (s : State) : State :=
  { s with
    fsm := .xfer (afterPoll q s)
    cause := causeDraw s (s.causeReads + q)
    causeReads := s.causeReads + q + 1
    xfer := { s.xfer with n := s.xfer.n + q + 1 }
    trace := s.trace ++
      (List.range (q + 1)).map fun j => .regRead .cause (regAddr s.params .cause) (causeDraw s (s.causeReads + j)) }

/-- P_POLL makes one poll. -/
theorem xferStep_pPoll (s : State) : xferStep .pPoll s = .next (polled 0 s) := rfl

/-- One poll after `q + 1` others. -/
theorem polled_succ (q : Nat) (s : State) : polled 0 (polled q s) = polled (q + 1) s := by
  simp [polled, afterPoll, List.range_succ, causeDraw, Nat.add_assoc]

/-- The polls go on while they show WC = 0 and the bound is not met. -/
theorem run_polled {s : State} (hwf : s.params.wf = true) (hfsm : s.fsm = .xfer .pPoll) (q : Nat)
    (hmiss : ∀ j, j < q → wcSet s.params (causeDraw s (s.causeReads + j)) = false)
    (hbound : s.xfer.n + q < s.params.pollBound) :
    run (q + 1) s = .next (polled q s) := by
  induction q with
  | zero => rw [run_succ 0 (step_xfer hwf hfsm ▸ xferStep_pPoll s), run_zero]
  | succ q ih =>
    have hpoll : (polled q s).fsm = .xfer .pPoll := by
      simp [polled, afterPoll, hmiss q (Nat.lt_succ_self q)]
      omega
    have hstep : step (polled q s) = .next (polled (q + 1) s) := by
      rw [step_xfer (s := polled q s) hwf hpoll, xferStep_pPoll, polled_succ]
    rw [run_add 1 (ih (fun j hj => hmiss j (Nat.lt_succ_of_lt hj)) (by omega)), run_succ 0 hstep, run_zero]

/-- Host memory after the bytes of `d` are stored at `b` (R182). -/
def inMem (p : Params) (m : List Host.Cell) (b : Nat) (w : Width) (d : Word) : List Host.Cell :=
  match w with
  | .one => memPut m b (d.extractLsb' 0 8)
  | .two => memPut (memPut m b (d.extractLsb' 0 8)) (addrAdd p b 1) (d.extractLsb' 8 8)

/-- The accesses that store them, in order. -/
def inWrites (p : Params) (b : Nat) (w : Width) (d : Word) : List Event :=
  match w with
  | .one => [.memWrite b (d.extractLsb' 0 8)]
  | .two => [.memWrite b (d.extractLsb' 0 8), .memWrite (addrAdd p b 1) (d.extractLsb' 8 8)]

/-- DIN is read once and its bytes are stored at the in cursor `b` (R182). -/
def received (b : Nat) (s : State) : State :=
  { s with
    fsm := .xfer .pAdv
    din := dinDraw s s.dinReads
    dinReads := s.dinReads + 1
    mem := inMem s.params s.mem b s.xfer.w (dinDraw s s.dinReads)
    xfer := { s.xfer with d := dinDraw s s.dinReads }
    trace := s.trace ++ .regRead .din (regAddr s.params .din) (dinDraw s s.dinReads) ::
      inWrites s.params b s.xfer.w (dinDraw s s.dinReads) }

theorem reaches_received {s : State} {b : Nat} (hwf : s.params.wf = true) (hfsm : s.fsm = .xfer .pInR) (hip : s.xfer.ip = some b)
    (hcursor : b < 2 ^ s.params.addrW) (hbuffer : bufferAdmitted s.params (some b) (widthBytes s.xfer.w)) :
    Reaches s (received b s) := by
  have hfirst := admits_first hbuffer hcursor
  cases hw : s.xfer.w with
  | one =>
    refine ⟨2, ?_⟩
    simp [run, step, hwf, hfsm, xferStep, stepPInR, stepPInB0, memStore_admitted, hfirst, goWith, goTo, emit, received,
      inMem, inWrites, hip, hw]
  | two =>
    rw [hw] at hbuffer
    have hsecond := admits_second hbuffer
    refine ⟨3, ?_⟩
    simp [run, step, hwf, hfsm, xferStep, stepPInR, stepPInB0, stepPInB1, memStore_admitted, hfirst, hsecond, goWith, goTo,
      emit, received, inMem, inWrites, hip, hw]

/-- A halfword stored is read back, and every other byte is kept. -/
theorem memGet_inMem_two {p : Params} {m : List Host.Cell} {b : Nat} (d : Word) (hm : memWf m = true) (hne : b ≠ addrAdd p b 1) :
    memGet (inMem p m b .two d) b = d.extractLsb' 0 8 ∧ memGet (inMem p m b .two d) (addrAdd p b 1) = d.extractLsb' 8 8 ∧
      ∀ a, a ≠ b → a ≠ addrAdd p b 1 → memGet (inMem p m b .two d) a = memGet m a := by
  refine ⟨?_, ?_, fun a ha hb => ?_⟩
  · rw [inMem, memGet_memPut_of_ne _ _ hne, memGet_memPut _ _ hm]
  · rw [inMem, memGet_memPut _ _ (memPut_wf _ _ hm)]
  · rw [inMem, memGet_memPut_of_ne _ _ hb, memGet_memPut_of_ne _ _ ha]

/-- The word at its first poll, `n = 0`, after its launch. -/
theorem WordReady.reaches_first_poll {s : State} (h : WordReady s) : Reaches s (sent (cleared s)) :=
  (reaches_cleared h).trans (reaches_sent h.wf rfl rfl h.out_cursor h.out_admitted)

/-- `POLL_BOUND` polls without WC lead past P_TMO (R181, R183). -/
theorem reaches_timeout {s : State} (hwf : s.params.wf = true) (hfsm : s.fsm = .xfer .pPoll) (hn : s.xfer.n = 0)
    (hmiss : ∀ j, j < s.params.pollBound → wcSet s.params (causeDraw s (s.causeReads + j)) = false) :
    Reaches s (stepPTmo (polled (s.params.pollBound - 1) s)) := by
  have hpos := pollBound_pos hwf
  have hpolls := run_polled hwf hfsm (s.params.pollBound - 1) (fun j hj => hmiss j (by omega)) (by omega)
  have htmo : (polled (s.params.pollBound - 1) s).fsm = .xfer .pTmo := by
    simp [polled, afterPoll, hmiss (s.params.pollBound - 1) (by omega)]
    omega
  exact .trans ⟨_, hpolls⟩ (.head (s := polled _ s) hwf htmo rfl (.refl _))

/-- A poll with WC leads to the input of the word and past P_ADV (R181, R182). -/
theorem reaches_completion {s : State} {q b : Nat} (hwf : s.params.wf = true) (hfsm : s.fsm = .xfer .pPoll)
    (hq : s.xfer.n + q < s.params.pollBound)
    (hmiss : ∀ j, j < q → wcSet s.params (causeDraw s (s.causeReads + j)) = false)
    (hhit : wcSet s.params (causeDraw s (s.causeReads + q)) = true) (hip : s.xfer.ip = some b) (hcursor : b < 2 ^ s.params.addrW)
    (hbuffer : bufferAdmitted s.params (some b) (widthBytes s.xfer.w)) :
    Reaches s (stepPAdv (received b (polled q s))) := by
  have hpolls := run_polled hwf hfsm q hmiss hq
  have hin : (polled q s).fsm = .xfer .pInR := by simp [polled, afterPoll, hhit, hip]
  exact .trans ⟨_, hpolls⟩ ((reaches_received (s := polled q s) hwf hin hip hcursor hbuffer).trans
    (.head (s := received b _) hwf rfl rfl (.refl _)))

/-- An attempt at a word that times out (R183): the word is at P_TEST again. -/
def timedOutWord (s : State) : State := stepPTmo (polled (s.params.pollBound - 1) (sent (cleared s)))

/-- A word that completes at poll `q + 1`, with its input stored at `b` (R182): the next P_TEST. -/
def completedWord (q b : Nat) (s : State) : State := stepPAdv (received b (polled q (sent (cleared s))))

/-- An attempt whose polls all miss times out. -/
theorem WordReady.reaches_timedOutWord {s : State} (h : WordReady s) (hfail : attemptFails s s.causeReads) :
    Reaches s (timedOutWord s) :=
  h.reaches_first_poll.trans (reaches_timeout h.wf rfl rfl hfail)

/-- An attempt with a hit at poll `q + 1` completes. -/
theorem WordReady.reaches_completedWord {s : State} {q b : Nat} (h : WordReady s) (hdone : attemptCompletes s s.causeReads q)
    (hip : s.xfer.ip = some b) (hcursor : b < 2 ^ s.params.addrW)
    (hbuffer : bufferAdmitted s.params (some b) (widthBytes (widthFor s.xfer.rem))) : Reaches s (completedWord q b s) := by
  obtain ⟨hq, hmiss, hhit⟩ := hdone
  have hn : (sent (cleared s)).xfer.n = 0 := rfl
  refine h.reaches_first_poll.trans (reaches_completion h.wf rfl ?_ hmiss hhit hip hcursor hbuffer)
  rw [hn, Nat.zero_add]
  exact hq

/-- What a completed word makes of the request and of host memory (R182). -/
theorem completedWord_eq (q b : Nat) (s : State) :
    (completedWord q b s).params = s.params ∧ (completedWord q b s).fsm = .xfer .pTest ∧
      (completedWord q b s).xfer.rem = s.xfer.rem - 8 * (widthBytes (widthFor s.xfer.rem) : Int) ∧
      (completedWord q b s).xfer.words = s.xfer.words + 1 ∧ (completedWord q b s).xfer.status = s.xfer.status ∧
      (completedWord q b s).mem = inMem s.params s.mem b (widthFor s.xfer.rem) (dinDraw s s.dinReads) := by
  simp [completedWord, stepPAdv, advanced, received, polled, sent, cleared, dinDraw]

/-! What a timeout keeps, under either policy. -/

section
variable (s : State)

@[simp] theorem timedOutWord_params : (timedOutWord s).params = s.params := by
  simp [timedOutWord, stepPTmo, polled, sent, cleared]
@[simp] theorem timedOutWord_fsm : (timedOutWord s).fsm = .xfer .pTest := by simp [timedOutWord, stepPTmo]
@[simp] theorem timedOutWord_mem : (timedOutWord s).mem = s.mem := by
  simp [timedOutWord, stepPTmo, polled, sent, cleared]
@[simp] theorem timedOutWord_causeScript : (timedOutWord s).causeScript = s.causeScript := by
  simp [timedOutWord, stepPTmo, polled, sent, cleared]
@[simp] theorem timedOutWord_dinScript : (timedOutWord s).dinScript = s.dinScript := by
  simp [timedOutWord, stepPTmo, polled, sent, cleared]
@[simp] theorem timedOutWord_dinReads : (timedOutWord s).dinReads = s.dinReads := by
  simp [timedOutWord, stepPTmo, polled, sent, cleared]

end

/-- The working values after an attempt that times out under CONTINUE (R183): no cursor and no count of bits has moved. -/
theorem timedOutWord_xfer {s : State} (hpolicy : s.params.timeoutPolicy = .continues) :
    (timedOutWord s).xfer = { s.xfer with
      w := widthFor s.xfer.rem, t := causeDraw s s.causeReads, n := s.params.pollBound - 1 + 1, tmo := s.xfer.tmo + 1
      word := outWord s.params s.mem s.xfer.op (widthFor s.xfer.rem) } := by
  simp [timedOutWord, stepPTmo, timedOut, hpolicy, polled, sent, cleared]

/-- Under CONTINUE a word that timed out is ready again (R184, R186). -/
theorem WordReady.after_timeout {s : State} (h : WordReady s) (hpolicy : s.params.timeoutPolicy = .continues) :
    WordReady (timedOutWord s) := by
  obtain ⟨hwf, -, hrem, hstop, hcursor, hbuffer⟩ := h
  constructor <;> simp only [timedOutWord_params, timedOutWord_fsm, timedOutWord_xfer hpolicy] <;> assumption

/-- What one timeout under CONTINUE keeps, `r` timeouts keep. -/
theorem iterate_timedOutWord_keeps {α : Type} {f : State → α}
    (hstep : ∀ u, u.params.timeoutPolicy = .continues → f (timedOutWord u) = f u) {r : Nat} {s : State}
    (hpolicy : 0 < r → s.params.timeoutPolicy = .continues) : f (timedOutWord^[r] s) = f s := by
  induction r generalizing s with
  | zero => rfl
  | succ r ih =>
    have hcont := hpolicy (Nat.succ_pos r)
    rw [Function.iterate_succ_apply, ih (s := timedOutWord s) fun _ => by rw [timedOutWord_params, hcont], hstep s hcont]

/-- The CAUSE reads of an attempt that times out: the clear and `POLL_BOUND` polls (R178, R181). -/
theorem timedOutWord_causeReads {s : State} (hwf : s.params.wf = true) :
    (timedOutWord s).causeReads = s.causeReads + (s.params.pollBound + 1) := by
  have := pollBound_pos hwf
  simp [timedOutWord, stepPTmo, polled, sent, cleared]
  omega

/-- Whether attempts fail or complete depends on the configuration and the draws of CAUSE alone. -/
theorem attempts_congr {s t : State} (hparams : t.params = s.params) (hscript : t.causeScript = s.causeScript) (k q : Nat) :
    (attemptFails t k ↔ attemptFails s k) ∧ (attemptCompletes t k q ↔ attemptCompletes s k q) := by
  simp [attemptFails, attemptCompletes, causeDraw, hparams, hscript]

/-- Under CONTINUE a word is attempted again after each timeout (R186). -/
theorem WordReady.reaches_retry {s : State} {r : Nat} (h : WordReady s) (hpolicy : 0 < r → s.params.timeoutPolicy = .continues)
    (hfail : ∀ i, i < r → attemptFails s (s.causeReads + i * (s.params.pollBound + 1))) :
    Reaches s (timedOutWord^[r] s) ∧ WordReady (timedOutWord^[r] s) ∧
      (timedOutWord^[r] s).causeReads = s.causeReads + r * (s.params.pollBound + 1) := by
  induction r with
  | zero => exact ⟨.refl s, h, by simp⟩
  | succ r ih =>
    have hcont := hpolicy (Nat.succ_pos r)
    obtain ⟨hreach, hready, hcount⟩ := ih (fun _ => hcont) fun i hi => hfail i (Nat.lt_succ_of_lt hi)
    have hparams := iterate_timedOutWord_keeps (r := r) (s := s) (fun u _ => timedOutWord_params u) fun _ => hcont
    have hscript := iterate_timedOutWord_keeps (r := r) (s := s) (fun u _ => timedOutWord_causeScript u) fun _ => hcont
    have hlast : attemptFails (timedOutWord^[r] s) (timedOutWord^[r] s).causeReads := by
      rw [(attempts_congr hparams hscript _ 0).1, hcount]
      exact hfail r (Nat.lt_succ_self r)
    rw [Function.iterate_succ_apply']
    refine ⟨hreach.trans (hready.reaches_timedOutWord hlast), hready.after_timeout (hparams ▸ hcont), ?_⟩
    rw [timedOutWord_causeReads hready.wf, hparams, hcount, Nat.succ_mul, Nat.add_assoc]

end Sys2Proof.Machine
end

section
/-! The two ends of an XFER: from CHECK to the strategy, and from TAIL to IDLE (spec/43_transfer.md R171 to R173). -/

namespace Sys2Proof.Machine

/-- SELECT, if the flag asks for it (spec/42_chipselect.md R151, R153). -/
def selectedIf (bgn : Bool) (s : State) : State := bif bgn then stepSelW (stepSelR s) else s

theorem reaches_selectedIf {s : State} {bgn : Bool} (hwf : s.params.wf = true)
    (hfsm : s.fsm = .xfer (bif bgn then .selR else .body)) :
    Reaches s (selectedIf bgn s) ∧ (selectedIf bgn s).fsm = .xfer .body := by
  cases bgn with
  | false => exact ⟨.refl s, hfsm⟩
  | true => exact ⟨.head hwf hfsm rfl (.head (s := stepSelR s) hwf rfl rfl (.refl _)), rfl⟩

/-- An accepted XFER at its strategy. -/
def begun (bgn nd o i : Bool) (s : State) : State :=
  selectedIf bgn (goWith (bif bgn then .selR else .body) (startXfer nd o i s) (beginCommand s))

/-- The start of a command writes nothing that a request is made of. -/
theorem startXfer_beginCommand (nd o i : Bool) (s : State) : startXfer nd o i (beginCommand s) = startXfer nd o i s := rfl

/-- An XFER that passes the checks of R173 comes to its strategy. -/
theorem exec_xfer_reaches {s : State} (bgn nd o i : Bool) (hwf : s.params.wf = true)
    (hoperands : xferOperandsOk o i s = true) (hinit : s.init = true) (hclaimed : s.claimed = true) :
    ∃ u, exec (.xfer bgn nd o i) s = .next u ∧ Reaches u (begun bgn nd o i s) ∧ (begun bgn nd o i s).fsm = .xfer .body := by
  refine ⟨_, ?_, reaches_selectedIf hwf rfl⟩
  have hoperands' : xferOperandsOk o i (beginCommand s) = true := hoperands
  simp [exec, execXfer, hoperands', hinit, hclaimed, startXfer_beginCommand]

/-- SELECT keeps the request that CHECK latched; its read of CTRL is in a working value. -/
theorem begun_xfer (bgn nd o i : Bool) (s : State) : ∃ t, (begun bgn nd o i s).xfer = { startXfer nd o i s with t := t } := by
  cases bgn <;> exact ⟨_, rfl⟩

/-- SELECT touches neither the configuration, host memory nor the draws. -/
theorem begun_inputs (bgn nd o i : Bool) (s : State) : (begun bgn nd o i s).params = s.params ∧
    (begun bgn nd o i s).mem = s.mem ∧ (begun bgn nd o i s).causeScript = s.causeScript ∧
    (begun bgn nd o i s).dinScript = s.dinScript ∧ (begun bgn nd o i s).causeReads = s.causeReads ∧
    (begun bgn nd o i s).dinReads = s.dinReads := by
  cases bgn <;> simp [begun, selectedIf, stepSelR, stepSelW]

/-- DESELECT, if the flag asks for it (R152, R153). -/
def deselectedIf (nd : Bool) (s : State) : State := bif nd then stepDselW (stepDselR s) else s

theorem reaches_deselectedIf {s : State} {nd : Bool} (hwf : s.params.wf = true)
    (hfsm : s.fsm = .xfer (bif nd then .dselR else .done)) :
    Reaches s (deselectedIf nd s) ∧ (deselectedIf nd s).fsm = .xfer .done ∧ (deselectedIf nd s).params = s.params := by
  cases nd with
  | false => exact ⟨.refl s, hfsm, rfl⟩
  | true =>
    refine ⟨.head hwf hfsm rfl (.head (s := stepDselR s) hwf rfl rfl (.refl _)), ?_, ?_⟩ <;>
      simp [deselectedIf, stepDselW, stepDselR]

/-- From TAIL the transfer ends, past DESELECT where its request asks for it. -/
def ended (s : State) : State := stepDone (deselectedIf s.xfer.endSel (stepTail s))

/-- TAIL leads to the end. -/
theorem reaches_ended {s : State} (hwf : s.params.wf = true) (hfsm : s.fsm = .xfer .tail) : Reaches s (ended s) := by
  have htail : (stepTail s).fsm = .xfer (bif s.xfer.endSel then .dselR else .done) ∧ (stepTail s).params = s.params := by
    cases hend : s.xfer.endSel <;> simp [stepTail, hend]
  obtain ⟨hstart, hparams⟩ := htail
  obtain ⟨hreach, hdone, hparams'⟩ := reaches_deselectedIf (hparams ▸ hwf) hstart
  exact .head hwf hfsm rfl (hreach.trans (.head (by rw [hparams', hparams, hwf]) hdone rfl (.refl _)))

/-- With at most 4 bits left P_TEST ends the transfer (R175). -/
theorem reaches_ended_of_test {s : State} (hwf : s.params.wf = true) (hfsm : s.fsm = .xfer .pTest) (hrem : s.xfer.rem ≤ 4) :
    Reaches s (ended (goTo .tail s)) := by
  have htest : xferStep .pTest s = .next (goTo .tail s) := by simp [xferStep, stepPTest, hrem]
  exact .head hwf hfsm htest (reaches_ended hwf rfl)

/-- The end of an XFER answers its status and its words, and leaves host memory alone. -/
theorem ended_eq (s : State) : (ended s).fsm = .idle ∧ (ended s).r0 = statusCode s.xfer.status ∧
    (ended s).r1 = zext64Nat s.xfer.words ∧ (ended s).mem = s.mem := by
  cases hend : s.xfer.endSel <;>
    simp [ended, stepDone, stepTail, deselectedIf, hend, stepDselR, stepDselW, setResults]

end Sys2Proof.Machine
end

section
/-! The loop-back exchange (O57; spec/95_test_vectors.md S3; spec/20_memory.md R74). -/

namespace Sys2Proof.Machine

/-- A transfer with an input buffer is polled (spec/42_chipselect.md R156). -/
theorem pathOf_of_in (p : Params) (cs : BitVec 3) (o : Bool) : pathOf p cs o true = .polled := by
  unfold pathOf
  split <;> simp

/-- The bytes of the halfword in the low half of a word. -/
theorem bytes_of_setWidth {d : Word} {hi lo : Byte} (h : d.setWidth 16 = hi ++ lo) :
    d.extractLsb' 0 8 = lo ∧ d.extractLsb' 8 8 = hi := by
  have hd : ∀ k, k + 8 ≤ 16 → d.extractLsb' k 8 = (d.setWidth 16).extractLsb' k 8 :=
    fun k hk => (BitVec.extractLsb'_setWidth_of_le hk).symm
  rw [hd 0 (by decide), hd 8 (by decide), h]
  exact ⟨BitVec.extractLsb'_append_eq_right, BitVec.extractLsb'_append_eq_left⟩

/-- A last word, with an in buffer, that completes on some attempt ends the transfer with its status, one word more and the word's
DIN draw stored (R182, R186). -/
theorem WordReady.reaches_last_word {s : State} {b r q : Nat} (h : WordReady s) (hword : wordsComplete s s.causeReads [(r, q)])
    (hip : s.xfer.ip = some b) (hcursor : b < 2 ^ s.params.addrW)
    (hbuffer : bufferAdmitted s.params (some b) (widthBytes (widthFor s.xfer.rem)))
    (hlast : s.xfer.rem - 8 * (widthBytes (widthFor s.xfer.rem) : Int) ≤ 4) :
    ∃ t, Reaches s t ∧ t.fsm = .idle ∧ t.r0 = statusCode s.xfer.status ∧ t.r1 = zext64Nat (s.xfer.words + 1) ∧
      t.mem = inMem s.params s.mem b (widthFor s.xfer.rem) (dinDraw s s.dinReads) := by
  obtain ⟨hpolicy, hfail, hdone, -⟩ := hword
  obtain ⟨hretry, hready, hcount⟩ := h.reaches_retry hpolicy hfail
  have hparams := iterate_timedOutWord_keeps (fun u _ => timedOutWord_params u) hpolicy
  have hscript := iterate_timedOutWord_keeps (fun u _ => timedOutWord_causeScript u) hpolicy
  have hmem := iterate_timedOutWord_keeps (fun u _ => timedOutWord_mem u) hpolicy
  have hdraw := iterate_timedOutWord_keeps (f := fun u => dinDraw u u.dinReads) (fun u _ => by simp [dinDraw]) hpolicy
  have hrequest := iterate_timedOutWord_keeps (f := fun u => (u.xfer.ip, u.xfer.rem, u.xfer.words, u.xfer.status))
    (fun u hu => by rw [timedOutWord_xfer hu]) hpolicy
  generalize timedOutWord^[r] s = v at *
  simp only [Prod.mk.injEq] at hrequest
  obtain ⟨hipv, hrem, hwords, hstatus⟩ := hrequest
  rw [← hcount, ← (attempts_congr hparams hscript _ _).2] at hdone
  obtain ⟨hparams', htest, hrem', hwords', hstatus', hmem'⟩ := completedWord_eq q b v
  have hword := hready.reaches_completedWord hdone (hipv.trans hip) (by rwa [hparams]) (by rwa [hparams, hrem])
  have hend := reaches_ended_of_test (by rw [hparams', hready.wf]) htest (by rwa [hrem', hrem])
  generalize completedWord q b v = w at *
  obtain ⟨hidle, hr0, hr1, hkept⟩ := ended_eq (goTo .tail w)
  refine ⟨_, hretry.trans (hword.trans hend), hidle, ?_, ?_, ?_⟩
  · rw [hr0, goTo_xfer, hstatus', hstatus]
  · rw [hr1, goTo_xfer, hwords', hwords]
  · rw [hkept, goTo_mem, hmem', hparams, hmem, hrem, hdraw]

/-- A 16-bit exchange whose one word completes ends with OK, one word and the DIN draw in the in buffer (R189). -/
theorem execXfer16_exchanges {s : State} (bgn nd : Bool) {r q : Nat} (hwf : s.params.wf = true) (hinit : s.init = true)
    (hclaimed : s.claimed = true) (hbits : s.a0 = 16) (hout : s.a1.toNat < 2 ^ s.params.addrW)
    (hin : s.a2.toNat < 2 ^ s.params.addrW) (houtBuffer : bufferAdmitted s.params (some s.a1.toNat) 2)
    (hinBuffer : bufferAdmitted s.params (some s.a2.toNat) 2) (hword : wordsComplete s s.causeReads [(r, q)]) :
    ∃ u t, exec (.xfer bgn nd true true) s = .next u ∧ Reaches u t ∧ t.fsm = .idle ∧ t.r0 = 0 ∧ t.r1 = 1 ∧
      t.mem = inMem s.params s.mem s.a2.toNat .two (dinDraw s s.dinReads) := by
  have hoperands : xferOperandsOk true true s = true := by simp [xferOperandsOk, numberOk, addressOk, hbits, hout, hin]
  obtain ⟨u, hexec, hbegin, hbody⟩ := exec_xfer_reaches bgn nd true true hwf hoperands hinit hclaimed
  obtain ⟨hparams, hmem, hcause, hdin, hcauses, hdins⟩ := begun_inputs bgn nd true true s
  obtain ⟨c, hx⟩ := begun_xfer bgn nd true true s
  generalize begun bgn nd true true s = v at *
  have hrem : v.xfer.rem = 16 := by simp [hx, startXfer, numberVal, hbits]
  have hwidth : widthFor v.xfer.rem = .two := by rw [hrem]; rfl
  have hop : v.xfer.op = some s.a1.toNat := by simp [hx, startXfer, bufferOf]
  have hip : v.xfer.ip = some s.a2.toNat := by simp [hx, startXfer, bufferOf]
  have hstep : xferStep .body v = .next (goTo .pTest v) := by simp [xferStep, stepBody, hx, startXfer, pathOf_of_in]
  have hready : WordReady (goTo .pTest v) := by
    refine ⟨hparams ▸ hwf, rfl, ?_, ?_, ?_, ?_⟩
    · simp [hrem]
    · simp [hx, startXfer, Xfer.idle]
    · simpa [hop, hparams] using hout
    · simpa [hop, hparams, hwidth, widthBytes] using houtBuffer
  have hword' : wordsComplete (goTo .pTest v) v.causeReads [(r, q)] := by
    rw [wordsComplete_congr (s := s) (t := goTo .pTest v) hparams hcause, hcauses]
    exact hword
  obtain ⟨t, hreach, hidle, hr0, hr1, ht⟩ := hready.reaches_last_word hword' hip (by simpa [hparams] using hin)
    (by simpa [hparams, hwidth, widthBytes] using hinBuffer) (by simp [hrem, widthFor, widthBytes])
  refine ⟨u, t, hexec, hbegin.trans (.head (hparams ▸ hwf) hbody hstep hreach), hidle, ?_, ?_, ?_⟩
  · simp [hr0, hx, startXfer, Xfer.idle, statusCode]
  · simp [hr1, hx, startXfer, Xfer.idle, zext64Nat]
  · simp [ht, hparams, hmem, hwidth, dinDraw, hdin, hdins]

/-- Settles O57: the one word is sent, its DIN draw is stored, and the draw's bytes are those of the out buffer. -/
theorem loopBackExchangeReturnsTheBytes : Obligations.LoopBackExchangeReturnsTheBytes := by
  intro s bgn nd r q hwf hmem hinit hclaimed hbits hout hin houtBuffer hinBuffer hword hdraw
  obtain ⟨u, t, hexec, hreach, hidle, hok, hone, ht⟩ :=
    execXfer16_exchanges bgn nd hwf hinit hclaimed hbits (Nat.lt_of_succ_lt hout) (Nat.lt_of_succ_lt hin) houtBuffer
      hinBuffer hword
  have hnext : addrAdd s.params s.a2.toNat 1 = s.a2.toNat + 1 := Nat.mod_eq_of_lt hin
  obtain ⟨hlo, hhi⟩ := bytes_of_setWidth hdraw
  obtain ⟨hfirst, hsecond, hkept⟩ := memGet_inMem_two (p := s.params) (dinDraw s s.dinReads) hmem
    (show s.a2.toNat ≠ _ by rw [hnext]; exact (Nat.lt_succ_self _).ne)
  rw [hnext] at hsecond hkept
  rw [← ht, hlo] at hfirst
  rw [← ht, hhi] at hsecond
  rw [← ht] at hkept
  exact ⟨u, t, hexec, hreach, hidle, hok, hone, hfirst, hsecond, hkept⟩

end Sys2Proof.Machine
end

section
/-! The decoder row by row, and the end of a command whose word or operand is bad (O1, O3, O4; spec/30_encoding.md R92 to R97). -/

namespace Sys2Proof

/-- A row spells commands of that row only. -/
@[simp] theorem Opcode.opcode_instr (w : Word) (op : Opcode) : (op.instr w).opcode = op := by
  cases op <;> rfl

/-- A word decodes to a command exactly when it matches the command's own row and has the command's fields. -/
theorem decode_ok_iff_row (w : Word) (i : Instr) :
    decode w = .ok i ↔ w &&& i.opcode.mask = i.opcode.matchWord ∧ i.opcode.instr w = i := by
  rw [decode_ok_iff]
  constructor
  · rintro ⟨op, hmatch, rfl⟩
    simp [hmatch]
  · exact fun ⟨hmatch, hfields⟩ => ⟨i.opcode, hmatch, hfields⟩

/-- Settles O1: each clause is the command's row, and two commands of one row are the same when their fields are. -/
theorem commandWordsFollowTheTable : Obligations.CommandWordsFollowTheTable := by
  intro w
  have hrow := decode_ok_iff_row w
  refine ⟨(hrow .setup).trans (and_iff_left rfl), fun cs => (hrow (.claim cs)).trans ?_,
    (hrow .release).trans (and_iff_left rfl), (hrow .clkCompute).trans (and_iff_left rfl),
    (hrow .setSpeed).trans (and_iff_left rfl), fun h l b => (hrow (.modeCompute h l b)).trans ?_,
    fun h l b => (hrow (.setMode h l b)).trans ?_, fun cs o i => (hrow (.resolve cs o i)).trans ?_,
    fun b e o i => (hrow (.xfer b e o i)).trans ?_⟩
  · exact and_congr_right' (Instr.claim.injEq ..).to_iff
  · exact and_congr_right' (Instr.modeCompute.injEq ..).to_iff
  · exact and_congr_right' (Instr.setMode.injEq ..).to_iff
  · exact and_congr_right' (Instr.resolve.injEq ..).to_iff
  · exact and_congr_right' (Instr.xfer.injEq ..).to_iff

namespace Machine

/-- A command that a check ends with a status has that status, cleared results and no other effect (R95, R96). -/
theorem endCommand_beginCommand (st : Status) (s : State) :
    endCommand st (beginCommand s) = refusedWith (statusCode st) (isViolation st) s := rfl

/-- A command whose first check fails is refused with the status of that check. -/
theorem refusedWith_of_check {ok : Bool} {st : Status} {s : State} {rest : Host.Outcome State Fault Refusal}
    (hbad : ¬ ok = true) : (if !ok then .next (endCommand st (beginCommand s)) else rest) =
      .next (refusedWith (statusCode st) (isViolation st) s) := by
  simp [hbad, endCommand_beginCommand]

/-- In CHECK, under an accepted configuration, a word that spells no command is refused (R96). -/
theorem step_check_error {s : State} {e : Reject} (hwf : s.params.wf = true) (hcheck : s.fsm = .check)
    (hdecode : decode s.cmd = .error e) : step s = .next (refusedWith 8 true s) := by
  simp only [step, hwf, hcheck, hdecode, if_true]
  exact congrArg _ (endCommand_beginCommand .reservedCommand s)

/-- Settles O3: a reserved opcode spells no command. -/
theorem reservedOpcodesAreRefused : Obligations.ReservedOpcodesAreRefused := by
  intro s hwf hcheck hop
  have hdecode := decode_reserved hop
  exact ⟨fun i hi => (nomatch hdecode.symm.trans hi), step_check_error hwf hcheck hdecode⟩

/-- The operand constraints of XFER (R94). -/
theorem xferOperandsOk_iff (hasOut hasIn : Bool) (s : State) : xferOperandsOk hasOut hasIn s = true ↔
    s.a0.extractLsb' 32 32 = 0 ∧ (hasOut = true → s.a1.toNat < 2 ^ s.params.addrW) ∧
      (hasIn = true → s.a2.toNat < 2 ^ s.params.addrW) := by
  simp only [xferOperandsOk, Bool.and_eq_true, numberOk_iff, addressOk_iff, and_assoc]

/-- CLK_COMPUTE with a bad frequency is refused (R94, R96). -/
theorem exec_clkCompute_of_badOperand {s : State} (hbad : ¬ (numberOk s.a0 && numberOk s.a1) = true) :
    exec .clkCompute s = .next (refusedWith 8 true s) :=
  refusedWith_of_check hbad

/-- SET_SPEED with a bad frequency is refused (R94, R96). -/
theorem exec_setSpeed_of_badOperand {s : State} (hbad : ¬ numberOk s.a0 = true) :
    exec .setSpeed s = .next (refusedWith 8 true s) :=
  refusedWith_of_check hbad

/-- XFER with a bad bit length or a bad buffer address is refused (R94, R96). -/
theorem exec_xfer_of_badOperand {s : State} (beginSel endSel : Bool) {hasOut hasIn : Bool}
    (hbad : ¬ xferOperandsOk hasOut hasIn s = true) :
    exec (.xfer beginSel endSel hasOut hasIn) s = .next (refusedWith 8 true s) :=
  refusedWith_of_check hbad

/-- Settles O4: a word that spells no command has a reason to be rejected, and a bad operand fails the first check of its command. -/
theorem badCommandsEndReserved : Obligations.BadCommandsEndReserved := by
  refine fun s => ⟨fun hwf hcheck hnone => ?_, fun hbad => exec_clkCompute_of_badOperand ?_,
    fun hbad => exec_setSpeed_of_badOperand ?_, fun b e o i hbad => exec_xfer_of_badOperand b e ?_⟩
  · cases hdecode : decode s.cmd with
    | ok i => exact absurd hdecode (hnone i)
    | error e => exact step_check_error hwf hcheck hdecode
  · rw [Bool.and_eq_true, numberOk_iff, numberOk_iff]
    exact not_and_or.2 hbad
  · rwa [numberOk_iff]
  · rw [xferOperandsOk_iff]
    rintro ⟨hbits, hout, hin⟩
    rcases hbad with hne | ⟨ho, hge⟩ | ⟨hi, hge⟩
    · exact hne hbits
    · exact Nat.not_lt.2 hge (hout ho)
    · exact Nat.not_lt.2 hge (hin hi)

end Machine

end Sys2Proof
end

section
/-! The divider of CLOCK_DIV (O16, O17, O18; spec/40_clock.md R121 to R128). -/

namespace Sys2Proof.Machine

/-- The divider that CLOCK_DIV programs for `d`: `d'` of R122. For `d < 16` it is `d` (`roundedDivider_of_lt`). -/
def roundedDivider (d : Nat) : Nat := ceilDiv d (2 ^ (fls d - 4)) * 2 ^ (fls d - 4)

/-- Above the bits `fls x - 4` discards, at most four are left. -/
theorem lt_sixteen_mul_two_pow (x : Nat) : x < 2 ^ (fls x - 4) * 16 := by
  rw [show 16 = 2 ^ 4 from rfl, ← Nat.pow_add, ← fls_le_iff]
  omega

/-- Above the bits `fls x - 4` discards, four are left when `x` has four. -/
theorem eight_mul_two_pow_le {x : Nat} (hx : 8 ≤ x) : 2 ^ (fls x - 4) * 8 ≤ x := by
  have hlong : 3 < fls x := (lt_fls_iff x 3).2 hx
  rw [show 8 = 2 ^ 3 from rfl, ← Nat.pow_add, ← lt_fls_iff]
  omega

/-- Below 16 there is no bit to discard. -/
theorem fls_sub_four_of_lt {d : Nat} (hd : d < 16) : fls d - 4 = 0 := Nat.sub_eq_zero_of_le ((fls_le_iff d 4).2 hd)

/-- From 16 on there is a bit to discard. -/
theorem one_le_fls_sub_four {d : Nat} (hd : 16 ≤ d) : 1 ≤ fls d - 4 := Nat.sub_pos_of_lt ((lt_fls_iff d 4).2 hd)

/-- The programmed divider is not below `d` (R128, law 1). -/
theorem le_roundedDivider (d : Nat) : d ≤ roundedDivider d := le_ceilDiv_mul (Nat.two_pow_pos _)

/-- The programmed divider is the least multiple of `2 ^ (fls d - 4)` not below `d`. -/
theorem roundedDivider_le_of_dvd {d n : Nat} (hdvd : 2 ^ (fls d - 4) ∣ n) (hle : d ≤ n) : roundedDivider d ≤ n := by
  obtain ⟨q, rfl⟩ := hdvd
  rw [Nat.mul_comm] at hle ⊢
  exact Nat.mul_le_mul_right _ ((ceilDiv_le_iff q (Nat.two_pow_pos _)).2 hle)

/-- The bits the rounding discards are zero in the programmed divider. -/
theorem two_pow_dvd_roundedDivider (d : Nat) : 2 ^ (fls d - 4) ∣ roundedDivider d := Nat.dvd_mul_left _ _

/-- The programmed divider is `d` exactly when rounding has nothing to do (R128, law 2). -/
theorem roundedDivider_eq_self_iff (d : Nat) : roundedDivider d = d ↔ 2 ^ (fls d - 4) ∣ d :=
  ⟨fun h => by simpa only [h] using two_pow_dvd_roundedDivider d,
    fun h => (roundedDivider_le_of_dvd h (Nat.le_refl d)).antisymm (le_roundedDivider d)⟩

theorem roundedDivider_of_lt {d : Nat} (hd : d < 16) : roundedDivider d = d := by
  simp [roundedDivider_eq_self_iff, fls_sub_four_of_lt hd]

/-- The programmed divider is the least representable value not below `d` (R128, law 2): a representable value not below `d` is a
multiple of `2 ^ (fls d - 4)`. -/
theorem roundedDivider_le {d m p : Nat} (hm : m ≤ 15) (hle : d ≤ m * 2 ^ p) : roundedDivider d ≤ m * 2 ^ p := by
  refine roundedDivider_le_of_dvd (Nat.dvd_mul_left_of_dvd (Nat.pow_dvd_pow 2 ?_) m) hle
  obtain hsmall | hlarge := Nat.lt_or_ge d 16
  · simp [fls_sub_four_of_lt hsmall]
  · have hlow : 2 ^ (fls d - 4) * 8 ≤ d := eight_mul_two_pow_le (by omega)
    have hhigh : m * 2 ^ p ≤ 15 * 2 ^ p := Nat.mul_le_mul_right _ hm
    have hpow : 2 ^ (fls d - 4) < 2 ^ (p + 1) := by
      rw [Nat.pow_succ]
      omega
    exact Nat.lt_succ_iff.1 ((Nat.pow_lt_pow_iff_right (by decide)).1 hpow)

/-- SPPR loses no bit of the programmed divider, not even where rounding carried into a new top bit (R122). -/
theorem two_pow_sppr_dvd (d : Nat) : 2 ^ (fls (roundedDivider d) - 4) ∣ roundedDivider d := by
  have hbound : ceilDiv d (2 ^ (fls d - 4)) ≤ 16 := by
    rw [ceilDiv_le_iff _ (Nat.two_pow_pos _), Nat.mul_comm]
    exact (lt_sixteen_mul_two_pow d).le
  obtain hcarry | hfour := Nat.eq_or_lt_of_le hbound
  · have hpow : roundedDivider d = 2 ^ (fls d - 4 + 4) := by rw [roundedDivider, hcarry, Nat.pow_add, Nat.mul_comm]
    have hfls : fls (roundedDivider d) ≤ fls d - 4 + 5 :=
      (fls_le_iff _ _).2 (hpow ▸ Nat.pow_lt_pow_right (by decide) (by omega))
    rw [hpow] at hfls ⊢
    exact Nat.pow_dvd_pow 2 (by omega)
  · have hfls : fls (roundedDivider d) ≤ 4 + (fls d - 4) := by
      rw [fls_le_iff, Nat.pow_add]
      exact Nat.mul_lt_mul_of_pos_right hfour (Nat.two_pow_pos _)
    exact (Nat.pow_dvd_pow 2 (by omega)).trans (two_pow_dvd_roundedDivider d)

/-- Both branches of R122 in one: below 16 rounding and shifting do nothing. -/
theorem dividerPair_eq (d : Nat) : dividerPair d =
    if 7 < fls (roundedDivider d) - 4 then none
    else some ⟨BitVec.ofNat 4 (roundedDivider d >>> (fls (roundedDivider d) - 4)),
      BitVec.ofNat 3 (fls (roundedDivider d) - 4)⟩ := by
  obtain hsmall | hlarge := Nat.lt_or_ge d 16
  · simp [dividerPair, hsmall, roundedDivider_of_lt, fls_sub_four_of_lt]
  · rw [dividerPair, if_neg (Nat.not_lt.2 hlarge)]
    rfl

/-- The pair of a divider, as numbers: nothing is lost in the 4 bits of SPR and the 3 bits of SPPR. -/
theorem dividerPair_toNat {d : Nat} {c : ClockPair} (h : dividerPair d = some c) :
    c.spr.toNat = roundedDivider d / 2 ^ c.sppr.toNat ∧ c.sppr.toNat = fls (roundedDivider d) - 4 := by
  rw [dividerPair_eq] at h
  split at h
  · cases h
  · cases h
    have hsppr : fls (roundedDivider d) - 4 < 2 ^ 3 := by omega
    have hspr : roundedDivider d / 2 ^ (fls (roundedDivider d) - 4) < 2 ^ 4 :=
      Nat.div_lt_of_lt_mul (lt_sixteen_mul_two_pow _)
    simp only [BitVec.toNat_ofNat, Nat.mod_eq_of_lt hsppr, Nat.shiftRight_eq_div_pow, Nat.mod_eq_of_lt hspr, and_self]

/-- The pair decodes to the programmed divider (R120). -/
theorem dividerPair_value {d : Nat} {c : ClockPair} (h : dividerPair d = some c) :
    c.spr.toNat * 2 ^ c.sppr.toNat = roundedDivider d := by
  obtain ⟨hspr, hsppr⟩ := dividerPair_toNat h
  rw [hspr, hsppr, Nat.div_mul_cancel (two_pow_sppr_dvd d)]

/-- Where each half of a pair lies (R128, law 3). -/
theorem ClockPair.bounds (c : ClockPair) : c.spr.toNat ≤ 15 ∧ c.sppr.toNat ≤ 7 :=
  ⟨Nat.le_of_lt_succ c.spr.isLt, Nat.le_of_lt_succ c.sppr.isLt⟩

/-- A divider has no pair exactly when it exceeds `15 * 2 ^ 7` (R125): no pair has a larger value, and a `d` of at most 1920
rounds to at most 1920, which has 11 digits. -/
theorem dividerPair_eq_none_iff (d : Nat) : dividerPair d = none ↔ 1920 < d := by
  constructor
  · intro hnone
    by_contra hle
    have hrounded : roundedDivider d ≤ 15 * 2 ^ 7 := roundedDivider_le (Nat.le_refl 15) (Nat.not_lt.1 hle)
    have hfls : fls (roundedDivider d) ≤ 11 := (fls_le_iff _ 11).2 (by omega)
    rw [dividerPair_eq, if_neg (by omega)] at hnone
    cases hnone
  · intro hlt
    by_contra hsome
    obtain ⟨c, hc⟩ := Option.ne_none_iff_exists'.1 hsome
    obtain ⟨hspr, hsppr⟩ := c.bounds
    have hvalue : c.spr.toNat * 2 ^ c.sppr.toNat ≤ 15 * 2 ^ 7 :=
      Nat.mul_le_mul hspr (Nat.pow_le_pow_right (by decide) hsppr)
    rw [dividerPair_value hc] at hvalue
    exact absurd (hlt.trans_le (le_roundedDivider d)) (Nat.not_lt.2 hvalue)

/-- With a target frequency the result is the pair of the divider. -/
theorem clockDiv_of_pos {core target : Nat} (htarget : 0 < target) :
    clockDiv core target = dividerPair (ceilDiv core target) := if_neg htarget.ne'

/-- Settles O16: without a target there is no divider, and with one the divider has no pair when it exceeds 1920. -/
theorem clockDivErrorExactlyOutOfRange : Obligations.ClockDivErrorExactlyOutOfRange := by
  intro core target
  obtain rfl | htarget := Nat.eq_zero_or_pos target
  · simp [clockDiv]
  · have hrange : 1920 < ceilDiv core target ↔ 1920 * target < core := by
      rw [← Nat.not_le, ceilDiv_le_iff 1920 htarget, Nat.not_le]
    rw [clockDiv_of_pos htarget, dividerPair_eq_none_iff, hrange]
    exact (or_iff_right htarget.ne').symm

/-- The result, said of the least `d` with `core ≤ d * target` (R129). -/
theorem clockDiv_of_least {core target d : Nat} (htarget : 0 < target) (hle : core ≤ d * target)
    (hleast : ∀ q, core ≤ q * target → d ≤ q) : clockDiv core target = dividerPair d := by
  have hd : ceilDiv core target = d := ((ceilDiv_le_iff d htarget).2 hle).antisymm (hleast _ (le_ceilDiv_mul htarget))
  rw [clockDiv_of_pos htarget, hd]

/-- Settles O17: the pair's value is the programmed divider, of which each law holds. -/
theorem clockDivIsTheBestDivider : Obligations.ClockDivIsTheBestDivider := by
  intro core target d c _ htarget hle hleast hpair
  rw [clockDiv_of_least htarget hle hleast] at hpair
  obtain ⟨hspr, hsppr⟩ := c.bounds
  rw [dividerPair_value hpair]
  refine ⟨le_roundedDivider d, fun m p hm _ => roundedDivider_le hm, ?_, hsppr, hspr, ?_⟩
  · rw [roundedDivider_eq_self_iff]
    exact (or_iff_right_of_imp fun hsmall => by simp [fls_sub_four_of_lt hsmall]).symm
  · rw [Nat.mul_comm]
    exact hle.trans (Nat.mul_le_mul_right target (le_roundedDivider d))

/-- The small branch (R123). -/
theorem dividerPair_of_lt {d : Nat} (hd : d < 16) : dividerPair d = some ⟨BitVec.ofNat 4 d, 0⟩ := if_pos hd

/-- The large branch (R124): the programmed divider has at least five digits, and SPR is its first four. -/
theorem dividerPair_of_ge {d : Nat} {c : ClockPair} (hd : 16 ≤ d) (h : dividerPair d = some c) :
    8 ≤ c.spr.toNat ∧ 1 ≤ c.sppr.toNat := by
  obtain ⟨hspr, hsppr⟩ := dividerPair_toNat h
  have hrounded : 16 ≤ roundedDivider d := hd.trans (le_roundedDivider d)
  rw [hspr, hsppr]
  refine ⟨(Nat.le_div_iff_mul_le (Nat.two_pow_pos _)).2 ?_, one_le_fls_sub_four hrounded⟩
  rw [Nat.mul_comm]
  exact eight_mul_two_pow_le (by omega)

/-- Settles O18: each branch of the pair, and the least quotients 0 and 1. -/
theorem clockDivBranches : Obligations.ClockDivBranches := by
  intro core target d htarget hle hleast
  rw [clockDiv_of_least htarget hle hleast]
  have hzero : d = 0 ↔ core = 0 :=
    ⟨fun hd => by simpa [hd] using hle, fun hcore => Nat.le_zero.1 (hleast 0 (by simp [hcore]))⟩
  refine ⟨fun hd => ⟨_, dividerPair_of_lt hd, Nat.mod_eq_of_lt hd, rfl⟩, fun hd c hc => ?_, hzero, fun hcore hcap => ?_⟩
  · obtain ⟨hspr, hsppr⟩ := dividerPair_of_ge hd hc
    exact ⟨hspr, c.bounds.1, hsppr⟩
  · have hone : d ≤ 1 := hleast 1 (by simpa using hcap)
    omega

end Sys2Proof.Machine
end

section
/-! A field of a register after a read-modify-write, and the fields of CFG that SET_SPEED writes (O21; spec/00_scope.md R12, R13;
spec/10_state.md R30 to R32). -/

namespace Sys2Proof.Machine

/-- The image of a field's value has no bit outside the field. -/
theorem fieldMask_and_fieldImg_self {pos w : Nat} (v : BitVec w) (hfit : pos + w ≤ 32) :
    fieldMask pos w &&& fieldImg pos v.toNat = fieldImg pos v.toNat := by
  apply BitVec.eq_of_getLsbD_eq
  intro k hk
  rw [BitVec.getLsbD_and, getLsbD_fieldMask pos w k hfit, getLsbD_fieldImg]
  by_cases hinside : k < pos + w
  · simp +contextual [hinside, hk]
  · have hhigh : v.toNat.testBit (k - pos) = false := BitVec.getLsbD_of_ge v _ (by omega)
    simp [hhigh]

/-- The image of a field's value has no bit in a mask disjoint from the field. -/
theorem and_fieldImg_of_disjoint {m : Word} {pos w : Nat} (v : BitVec w) (hfit : pos + w ≤ 32)
    (hdisjoint : m &&& fieldMask pos w = 0) : m &&& fieldImg pos v.toNat = 0 := by
  rw [← fieldMask_and_fieldImg_self v hfit, ← BitVec.and_assoc, hdisjoint]
  exact BitVec.zero_and

/-- The bits that a read-modify-write neither clears nor sets are kept. -/
theorem getLsbD_rmwValue_of_not_cleared {t clear set : Word} {k : Nat} (hset : clear &&& set = set)
    (hk : clear.getLsbD k = false) : (rmwValue t clear set).getLsbD k = t.getLsbD k := by
  by_cases hlt : k < 32
  · rw [getLsbD_rmwValue t clear set k hlt, ← hset, BitVec.getLsbD_and, hk]
    simp
  · simp [BitVec.getLsbD_of_ge _ k (Nat.not_lt.1 hlt)]

/-- A field that a read-modify-write clears and sets to a value holds the value. -/
theorem extractLsb'_rmwValue {t clear set : Word} {pos w : Nat} (v : BitVec w) (hfit : pos + w ≤ 32)
    (hclear : fieldMask pos w &&& clear = fieldMask pos w) (hset : fieldMask pos w &&& set = fieldImg pos v.toNat) :
    (rmwValue t clear set).extractLsb' pos w = v := by
  apply BitVec.eq_of_getLsbD_eq
  intro i hi
  have hmask : (fieldMask pos w).getLsbD (pos + i) = true := by
    simp [getLsbD_fieldMask pos w _ hfit, hi]
  have hcleared : clear.getLsbD (pos + i) = true := by
    have hbit := congrArg (BitVec.getLsbD · (pos + i)) hclear
    simpa only [BitVec.getLsbD_and, hmask, Bool.true_and] using hbit
  have hvalue : set.getLsbD (pos + i) = v.getLsbD i := by
    have hbit := congrArg (BitVec.getLsbD · (pos + i)) hset
    simp only [BitVec.getLsbD_and, hmask, Bool.true_and, getLsbD_fieldImg, BitVec.testBit_toNat] at hbit
    simpa [show pos + i < 32 by omega] using hbit
  rw [BitVec.getLsbD_extractLsb', getLsbD_rmwValue _ _ _ _ (by omega), hcleared, hvalue]
  simp [hi]

/-- The three clock fields of CFG under an accepted configuration: they lie in the register and are disjoint (R30). -/
theorem clockFields_of_wf {p : Params} (hwf : p.wf = true) :
    p.layout.sppr0 + 1 ≤ 32 ∧ p.layout.sppr21 + 2 ≤ 32 ∧
      sprMask &&& sppr0Mask p = 0 ∧ sprMask &&& sppr21Mask p = 0 ∧ sppr0Mask p &&& sppr21Mask p = 0 := by
  obtain ⟨-, -, -, -, -, -, hfit, -, hcfg, -⟩ := wf_iff.1 hwf
  simp only [Params.fieldsFit, List.all_cons, Bool.and_eq_true, decide_eq_true_eq] at hfit
  obtain ⟨⟨⟨⟨-, -, h0, -⟩, h21⟩, -⟩, -⟩ := hfit
  simp only [Params.cfgFieldsDisjoint, masksDisjoint_iff, List.pairwise_cons, List.forall_mem_cons] at hcfg
  obtain ⟨⟨hspr0, hspr21, -⟩, ⟨hsppr, -⟩, -⟩ := hcfg
  exact ⟨h0, h21, hspr0, hspr21, hsppr⟩

/-- The part of the clock image in each clock field is the image of that field's value alone (R32). -/
theorem clkImg_in_fields {p : Params} (hwf : p.wf = true) (c : ClockPair) :
    sprMask &&& clkImg p c = fieldImg 0 c.spr.toNat ∧
      sppr0Mask p &&& clkImg p c = fieldImg p.layout.sppr0 (c.sppr.extractLsb' 0 1).toNat ∧
      sppr21Mask p &&& clkImg p c = fieldImg p.layout.sppr21 (c.sppr.extractLsb' 1 2).toNat := by
  obtain ⟨h0, h21, hspr0, hspr21, hsppr⟩ := clockFields_of_wf hwf
  have hspr0' : sppr0Mask p &&& sprMask = 0 := BitVec.and_comm .. ▸ hspr0
  have hspr21' : sppr21Mask p &&& sprMask = 0 := BitVec.and_comm .. ▸ hspr21
  have hsppr' : sppr21Mask p &&& sppr0Mask p = 0 := BitVec.and_comm .. ▸ hsppr
  rw [clkImg_eq]
  generalize c.spr = spr, c.sppr.extractLsb' 0 1 = low, c.sppr.extractLsb' 1 2 = high
  simp only [sprMask, sppr0Mask, sppr21Mask] at *
  simp [ BitVec.and_or_distrib_left, fieldMask_and_fieldImg_self, and_fieldImg_of_disjoint, *]

/-- The clock image has no bit outside CLOCK_MASK (R31, R32). -/
theorem clockMask_and_clkImg {p : Params} (hwf : p.wf = true) (c : ClockPair) : clockMask p &&& clkImg p c = clkImg p c := by
  obtain ⟨hspr, hsppr0, hsppr21⟩ := clkImg_in_fields hwf c
  rw [clockMask, BitVec.and_or_distrib_right, BitVec.and_or_distrib_right, hspr, hsppr0, hsppr21, clkImg_eq]

/-- CLOCK_MASK covers its three fields (R31). -/
theorem clockFields_and_clockMask (p : Params) : sprMask &&& clockMask p = sprMask ∧
    sppr0Mask p &&& clockMask p = sppr0Mask p ∧ sppr21Mask p &&& clockMask p = sppr21Mask p := by
  unfold clockMask
  refine ⟨?_, ?_, ?_⟩ <;>
  · ext k
    simp +contextual

/-- Settles O21: each clock field is in CLOCK_MASK and holds its own part of the image alone, and the image has no other bit. -/
theorem setSpeedProgramsTheDividerFields : Obligations.SetSpeedProgramsTheDividerFields := by
  intro p old c hwf v hv
  obtain ⟨h0, h21, -⟩ := clockFields_of_wf hwf
  obtain ⟨hclear, hclear0, hclear21⟩ := clockFields_and_clockMask p
  obtain ⟨hset, hset0, hset21⟩ := clkImg_in_fields hwf c
  have hv : v = rmwValue old (clockMask p) (clkImg p c) := hv
  have hsppr0 : v.extractLsb' p.layout.sppr0 1 = c.sppr.extractLsb' 0 1 := hv ▸ extractLsb'_rmwValue _ h0 hclear0 hset0
  refine ⟨hv ▸ extractLsb'_rmwValue _ (by decide) hclear hset, ?_, hv ▸ extractLsb'_rmwValue _ h21 hclear21 hset21,
    fun k hk => hv ▸ getLsbD_rmwValue_of_not_cleared (clockMask_and_clkImg hwf c) hk⟩
  simpa using congrArg (BitVec.getLsbD · 0) hsppr0

end Sys2Proof.Machine
end

section
/-! What CLK_COMPUTE and SET_SPEED answer (O19, O20; spec/40_clock.md R126, R127). -/

namespace Sys2Proof.Machine

/-- A check and the rest of a command, said of the checked condition: where it holds the command is refused, and elsewhere the rest
has its end. -/
theorem check_eq {c P : Prop} [Decidable c] [Decidable P] {st : Status} {s u : State}
    {rest : Host.Outcome State Fault Refusal} (hcheck : c ↔ P) (hrest : rest = .next u) :
    (if c then .next (endCommand st (beginCommand s)) else rest) =
      .next (if P then refusedWith (statusCode st) (isViolation st) s else u) := by
  by_cases hP : P
  · rw [if_pos (hcheck.2 hP), if_pos hP, endCommand_beginCommand]
  · rw [if_neg (mt hcheck.1 hP), if_neg hP, hrest]

/-- A command that ends with OK has its three results and no violation (R95). -/
theorem endCommand_ok_setResults (v1 v2 v3 : DWord) (s : State) :
    endCommand .ok (setResults v1 v2 v3 s) = completedWith v1 v2 v3 s := by
  simp [endCommand, setResults, completedWith, statusCode, isViolation]

/-- Settles O19: the operand check, then the two results of CLOCK_DIV. -/
theorem clkComputeResult : Obligations.ClkComputeResult := by
  refine ⟨by decide, fun s => check_eq ?_ ?_⟩
  · simp [numberOk]
  · simp only [beginCommand_a0, beginCommand_a1, numberVal_eq]
    cases clockDiv (s.a0.extractLsb' 0 32).toNat (s.a1.extractLsb' 0 32).toNat with
    | none => exact congrArg Host.Outcome.next (endCommand_beginCommand .configError s)
    | some c => exact congrArg Host.Outcome.next (endCommand_ok_setResults ..)

/-- Settles O20: the four checks in order, then the two results of CLOCK_DIV, of which a pair is written to CFG. -/
theorem setSpeedResult : Obligations.SetSpeedResult := by
  refine ⟨by decide, fun s => check_eq ?_ (check_eq ?_ (check_eq ?_ (check_eq ?_ ?_)))⟩
  · simp [numberOk]
  · simp
  · simp
  · simp
  · simp only [beginCommand_a0, beginCommand_params, numberVal_eq]
    cases clockDiv s.params.coreHz.toNat (s.a0.extractLsb' 0 32).toNat with
    | none => exact congrArg Host.Outcome.next (endCommand_beginCommand .configError s)
    | some c =>
      simp only [rmw_cfg]
      exact congrArg Host.Outcome.next (endCommand_ok_setResults ..)

end Sys2Proof.Machine
end

section
/-! The one-bit fields of CFG that SET_MODE writes, and the image that the mode encoder puts in them (O25, O22; spec/41_mode.md R141,
R142; spec/10_state.md R30, R31). -/

namespace Sys2Proof.Machine

/-- The mask of a one-bit field has that bit alone. -/
theorem getLsbD_fieldMask_one {pos : Nat} (k : Nat) (hfit : pos < 32) :
    (fieldMask pos 1).getLsbD k = decide (k = pos) := by
  rw [getLsbD_fieldMask pos 1 k hfit, Bool.eq_iff_iff]
  simp
  omega

/-- Disjoint one-bit fields stand at different positions. -/
theorem ne_of_fieldMask_disjoint {a b : Nat} (hfit : a < 32) (hdisjoint : fieldMask a 1 &&& fieldMask b 1 = 0) : a ≠ b := by
  rintro rfl
  have hbit := congrArg (BitVec.getLsbD · a) hdisjoint
  simp [getLsbD_fieldMask_one a hfit] at hbit

/-- The four mode bits of a layout lie in the register and are four different bits. -/
structure ModeBitsOk (y : Layout) : Prop where
  cpol_lt : y.cpol < 32
  cpha_lt : y.cpha < 32
  txLsbf_lt : y.txLsbf < 32
  rxLsbf_lt : y.rxLsbf < 32
  cpol_ne_cpha : y.cpol ≠ y.cpha
  cpol_ne_txLsbf : y.cpol ≠ y.txLsbf
  cpol_ne_rxLsbf : y.cpol ≠ y.rxLsbf
  cpha_ne_txLsbf : y.cpha ≠ y.txLsbf
  cpha_ne_rxLsbf : y.cpha ≠ y.rxLsbf

/-- An accepted configuration places the mode bits so (R30, R31). -/
theorem modeBitsOk_of_wf {p : Params} (hwf : p.wf = true) : ModeBitsOk p.layout := by
  obtain ⟨-, -, -, -, -, -, hfit, -, hcfg, -⟩ := wf_iff.1 hwf
  simp only [Params.fieldsFit, List.all_cons, Bool.and_eq_true, decide_eq_true_eq] at hfit
  obtain ⟨⟨⟨⟨-, -, -, -, hcpol, hcpha, htx, hrx, -⟩, -⟩, -⟩, -⟩ := hfit
  simp only [Params.cfgFieldsDisjoint, masksDisjoint_iff, List.pairwise_cons, List.forall_mem_cons] at hcfg
  obtain ⟨-, -, -, -, -, ⟨hcpolCpha, hcpolTx, hcpolRx, -⟩, ⟨hcphaTx, hcphaRx, -⟩, -⟩ := hcfg
  exact ⟨hcpol, hcpha, htx, hrx, ne_of_fieldMask_disjoint hcpol hcpolCpha, ne_of_fieldMask_disjoint hcpol hcpolTx,
    ne_of_fieldMask_disjoint hcpol hcpolRx, ne_of_fieldMask_disjoint hcpha hcphaTx, ne_of_fieldMask_disjoint hcpha hcphaRx⟩

/-- The bits of MODE_MASK (R31). -/
theorem getLsbD_modeMask {p : Params} (hbits : ModeBitsOk p.layout) (k : Nat) : (modeMask p).getLsbD k =
    (decide (k = p.layout.cpol) || decide (k = p.layout.cpha) || decide (k = p.layout.txLsbf) ||
      decide (k = p.layout.rxLsbf)) := by
  obtain ⟨hcpol, hcpha, htx, hrx, -⟩ := hbits
  simp [modeMask, cpolMask, cphaMask, txLsbfMask, rxLsbfMask, getLsbD_fieldMask_one, *]

/-- A flag's part of the mode image has the bits of its mask where the flag is set. -/
theorem getLsbD_cond_zero (b : Bool) (w : Word) (k : Nat) : (bif b then w else 0#32).getLsbD k = (b && w.getLsbD k) := by
  cases b <;> simp

/-- The bits of the mode image (R141). -/
theorem getLsbD_modeEnc {p : Params} (hbits : ModeBitsOk p.layout) (m : ModeFlags) (k : Nat) : (modeEnc p m).getLsbD k =
    (m.cpha && decide (k = p.layout.cpha) || m.cpol && decide (k = p.layout.cpol) ||
      m.lsb && (decide (k = p.layout.txLsbf) || decide (k = p.layout.rxLsbf))) := by
  obtain ⟨hcpol, hcpha, htx, hrx, -⟩ := hbits
  simp [modeEnc, cpolMask, cphaMask, txLsbfMask, rxLsbfMask, getLsbD_fieldMask_one, getLsbD_cond_zero, *]

/-- Each mode bit of the image holds its flag, and both LSB bits hold the one flag of them (R141). -/
theorem modeEnc_holds_flags {p : Params} (hbits : ModeBitsOk p.layout) (m : ModeFlags) :
    (modeEnc p m).getLsbD p.layout.cpha = m.cpha ∧ (modeEnc p m).getLsbD p.layout.cpol = m.cpol ∧
      (modeEnc p m).getLsbD p.layout.txLsbf = m.lsb ∧ (modeEnc p m).getLsbD p.layout.rxLsbf = m.lsb := by
  simp only [getLsbD_modeEnc hbits]
  obtain ⟨-, -, -, -, hcpolCpha, hcpolTx, hcpolRx, hcphaTx, hcphaRx⟩ := hbits
  simp [hcpolCpha, hcpolCpha.symm, hcpolTx, hcpolTx.symm, hcpolRx, hcpolRx.symm, hcphaTx, hcphaTx.symm, hcphaRx, hcphaRx.symm]

/-- The mode image has no bit outside MODE_MASK (R31, R141). -/
theorem modeMask_and_modeEnc {p : Params} (hbits : ModeBitsOk p.layout) (m : ModeFlags) :
    modeMask p &&& modeEnc p m = modeEnc p m := by
  apply BitVec.eq_of_getLsbD_eq
  intro k _
  rw [BitVec.getLsbD_and, Bool.and_eq_right_iff_imp, getLsbD_modeMask hbits, getLsbD_modeEnc hbits]
  simp only [Bool.or_eq_true, Bool.and_eq_true]
  tauto

/-- A bit that a read-modify-write clears and then sets to a value holds the value. -/
theorem getLsbD_rmwValue_of_cleared {t clear set : Word} {k : Nat} (hk : k < 32) (hclear : clear.getLsbD k = true) :
    (rmwValue t clear set).getLsbD k = set.getLsbD k := by
  simp [getLsbD_rmwValue t clear set k hk, hclear]

/-- Settles O25: MODE_MASK clears the four mode bits, which then hold the image's, and the image has no other bit. -/
theorem setModeProgramsTheModeFields : Obligations.SetModeProgramsTheModeFields := by
  intro p old m hwf v hv
  have hbits := modeBitsOk_of_wf hwf
  obtain ⟨hcpha, hcpol, htx, hrx⟩ := modeEnc_holds_flags hbits m
  have hv : v = rmwValue old (modeMask p) (modeEnc p m) := hv
  have hwritten {k : Nat} (hk : k < 32) (hclear : (modeMask p).getLsbD k = true) : v.getLsbD k = (modeEnc p m).getLsbD k :=
    hv ▸ getLsbD_rmwValue_of_cleared hk hclear
  refine ⟨(hwritten hbits.cpha_lt ?_).trans hcpha, (hwritten hbits.cpol_lt ?_).trans hcpol,
    (hwritten hbits.txLsbf_lt ?_).trans htx, (hwritten hbits.rxLsbf_lt ?_).trans hrx,
    fun k hk => hv ▸ getLsbD_rmwValue_of_not_cleared (modeMask_and_modeEnc hbits m) hk⟩
  all_goals simp [getLsbD_modeMask hbits]

/-- Settles O22: the default values are computed, and both LSB bits hold the flag. -/
theorem modeEncoderTable : Obligations.ModeEncoderTable := by
  refine ⟨fun p hlayout => ?_, fun p m hwf => ?_⟩
  · simp only [modeEnc, cpolMask, cphaMask, txLsbfMask, rxLsbfMask, hlayout]
    decide
  · obtain ⟨-, -, htx, hrx⟩ := modeEnc_holds_flags (modeBitsOk_of_wf hwf) m
    exact htx.trans hrx.symm

end Sys2Proof.Machine
end

section
/-! What MODE_COMPUTE and SET_MODE answer (O23, O24; spec/41_mode.md R144, R145). -/

namespace Sys2Proof.Machine

/-- Settles O23: the command has no check, and its end writes the image. -/
theorem modeComputeResult : Obligations.ModeComputeResult := by
  refine fun s h l b => ⟨?_, congrArg Host.Outcome.next (endCommand_ok_setResults ..)⟩
  revert h l b
  decide

/-- Settles O24: the three checks in order, then the read-modify-write of CFG and the results. -/
theorem setModeResult : Obligations.SetModeResult := by
  refine fun s h l b => ⟨?_, check_eq ?_ (check_eq ?_ (check_eq ?_ ?_))⟩
  · revert h l b
    decide
  · simp
  · simp
  · simp
  · simp only [rmw_cfg]
    exact congrArg Host.Outcome.next (endCommand_ok_setResults ..)

end Sys2Proof.Machine
end

section
/-! The fields of CTRL, and the select line after SELECT and after DESELECT (O30; spec/10_state.md R29; spec/42_chipselect.md R151,
R152). -/

namespace Sys2Proof.Machine

/-- The image of a number that fits a field has no bit outside the field. -/
theorem fieldMask_and_fieldImg_of_lt {pos w v : Nat} (hfit : pos + w ≤ 32) (hv : v < 2 ^ w) :
    fieldMask pos w &&& fieldImg pos v = fieldImg pos v := by
  simpa [Nat.mod_eq_of_lt hv] using fieldMask_and_fieldImg_self (BitVec.ofNat w v) hfit

/-- A mask disjoint from a one-bit field has a 0 in its place. -/
theorem getLsbD_of_fieldMask_disjoint {pos : Nat} {m : Word} (hfit : pos < 32) (hdisjoint : fieldMask pos 1 &&& m = 0) :
    m.getLsbD pos = false := by
  have hbit := congrArg (BitVec.getLsbD · pos) hdisjoint
  simpa [getLsbD_fieldMask_one pos hfit] using hbit

/-- In a part of the register that it clears, a read-modify-write leaves what it sets. -/
theorem rmwValue_and_of_cleared {m t clear set : Word} (hclear : clear &&& m = m) :
    rmwValue t clear set &&& m = set &&& m := by
  have hkept : ~~~clear &&& m = 0 := by rw [← hclear, ← BitVec.and_assoc]; simp
  simp [rmwValue, BitVec.and_or_distrib_right, BitVec.and_assoc, hkept]

/-- In a part of the register that it neither clears nor sets, a read-modify-write leaves what it read. -/
theorem rmwValue_and_of_disjoint {m t clear set : Word} (hclear : clear &&& m = 0) (hset : set &&& m = 0) :
    rmwValue t clear set &&& m = t &&& m := by
  have hkept : ~~~clear &&& m = m := by
    calc ~~~clear &&& m = (clear &&& m) ||| (~~~clear &&& m) := by simp [hclear]
      _ = m := by rw [← BitVec.and_or_distrib_right, BitVec.or_not_self, BitVec.allOnes_and]
  simp [rmwValue, BitVec.and_or_distrib_right, BitVec.and_assoc, hkept, hset]

/-- The three fields of CTRL lie in the register and are disjoint. -/
structure CtrlFieldsOk (p : Params) : Prop where
  csEn_lt : p.layout.csEn < 32
  ready_lt : p.layout.ready < 32
  cs_le : p.layout.cs + p.csW ≤ 32
  csEn_ready : csEnMask p &&& readyMask p = 0
  csEn_cs : csEnMask p &&& csMask p = 0
  ready_cs : readyMask p &&& csMask p = 0

/-- An accepted configuration places the fields of CTRL so (R29). -/
theorem ctrlFieldsOk_of_wf {p : Params} (hwf : p.wf = true) : CtrlFieldsOk p := by
  obtain ⟨-, -, -, -, -, -, hfit, hctrl, -⟩ := wf_iff.1 hwf
  simp only [Params.fieldsFit, List.all_cons, Bool.and_eq_true, decide_eq_true_eq] at hfit
  obtain ⟨⟨⟨⟨hcsEn, hready, -⟩, -⟩, -⟩, hcs⟩ := hfit
  simp only [Params.ctrlFieldsDisjoint, masksDisjoint_iff, List.pairwise_cons, List.forall_mem_cons] at hctrl
  obtain ⟨⟨hcsEnReady, hcsEnCs, -⟩, ⟨hreadyCs, -⟩, -⟩ := hctrl
  exact ⟨hcsEn, hready, hcs, hcsEnReady, hcsEnCs, hreadyCs⟩

/-- What the masks of CTRL hold at the places of CS_EN and READY (R29). -/
theorem ctrlMasks_bits {p : Params} (h : CtrlFieldsOk p) : (csEnMask p).getLsbD p.layout.csEn = true ∧
    (csEnMask p).getLsbD p.layout.ready = false ∧ (csMask p).getLsbD p.layout.ready = false := by
  refine ⟨?_, getLsbD_of_fieldMask_disjoint h.ready_lt (BitVec.and_comm .. ▸ h.csEn_ready),
    getLsbD_of_fieldMask_disjoint h.ready_lt h.ready_cs⟩
  simp [csEnMask, getLsbD_fieldMask_one _ h.csEn_lt]

/-- SELECT sets CS_EN and the index field, and keeps READY (R151). -/
theorem selectValue_fields {p : Params} {cs : BitVec 3} (t : Word) (h : CtrlFieldsOk p) (hcs : cs.toNat < 2 ^ p.csW) :
    (selectValue p cs t).getLsbD p.layout.csEn = true ∧ selectValue p cs t &&& csMask p = fieldImg p.layout.cs cs.toNat ∧
      (selectValue p cs t).getLsbD p.layout.ready = t.getLsbD p.layout.ready := by
  obtain ⟨hcsEn, hready, hreadyCs⟩ := ctrlMasks_bits h
  have himg : csMask p &&& fieldImg p.layout.cs cs.toNat = fieldImg p.layout.cs cs.toNat :=
    fieldMask_and_fieldImg_of_lt h.cs_le hcs
  refine ⟨?_, ?_, ?_⟩
  · rw [selectValue, getLsbD_rmwValue_of_cleared h.csEn_lt (by simp [hcsEn])]
    simp [hcsEn]
  · rw [selectValue, rmwValue_and_of_cleared (by simp [BitVec.and_or_distrib_right, h.csEn_cs]),
      BitVec.and_or_distrib_right, h.csEn_cs, BitVec.and_comm, himg]
    simp
  · rw [selectValue, getLsbD_rmwValue _ _ _ _ h.ready_lt, ← himg]
    simp [hready, hreadyCs]

/-- DESELECT clears CS_EN, and keeps the index field and READY (R152). -/
theorem deselectValue_fields {p : Params} (t : Word) (h : CtrlFieldsOk p) :
    (rmwValue t (csEnMask p) 0).getLsbD p.layout.csEn = false ∧ rmwValue t (csEnMask p) 0 &&& csMask p = t &&& csMask p ∧
      (rmwValue t (csEnMask p) 0).getLsbD p.layout.ready = t.getLsbD p.layout.ready := by
  obtain ⟨hcsEn, hready, -⟩ := ctrlMasks_bits h
  refine ⟨?_, rmwValue_and_of_disjoint h.csEn_cs BitVec.zero_and, getLsbD_rmwValue_of_not_cleared BitVec.and_zero hready⟩
  rw [getLsbD_rmwValue_of_cleared h.csEn_lt hcsEn]
  exact BitVec.getLsbD_zero

/-- Settles O30: DESELECT keeps the index and READY that SELECT left. -/
theorem selectLineBits : Obligations.SelectLineBits := by
  rintro p cs old _ _ hwf hcs rfl rfl
  have hfields := ctrlFieldsOk_of_wf hwf
  obtain ⟨hsel, hindex, hready⟩ := selectValue_fields old hfields hcs
  obtain ⟨hdesel, hkept, hready'⟩ := deselectValue_fields (selectValue p cs old) hfields
  exact ⟨hsel, hindex, hready, hdesel, hkept.trans hindex, hready'.trans hready⟩

end Sys2Proof.Machine
end

section
/-! The path function and what RESOLVE answers (O26, O27; spec/42_chipselect.md R156, R157). -/

namespace Sys2Proof.Machine

/-- A chip select without a window is polled. -/
theorem pathOf_of_no_window {p : Params} {cs : BitVec 3} (hasOut hasIn : Bool) (h : windowOf p cs.toNat = none) :
    pathOf p cs hasOut hasIn = .polled := by
  simp [pathOf, h]

/-- With a window the buffers decide. -/
theorem pathOf_of_window {p : Params} {cs : BitVec 3} {w : Window} (hasOut hasIn : Bool)
    (h : windowOf p cs.toNat = some w) :
    pathOf p cs hasOut hasIn = bif hasOut && !hasIn then .direct w.base w.size else .polled := by
  simp [pathOf, h]

/-- Settles O26: without a window the path is polled, and with one the two buffers decide. -/
theorem pathIsDirectOnlyForOutputWithWindow : Obligations.PathIsDirectOnlyForOutputWithWindow := by
  intro p cs hasOut hasIn
  cases hw : windowOf p cs.toNat with
  | none => simp [pathOf_of_no_window, hw]
  | some w =>
    rw [pathOf_of_window hasOut hasIn hw]
    cases hasOut <;> cases hasIn <;> simp

/-- On the direct path R[2] and R[3] hold the base and the size that fit them (R157). -/
theorem pathResults_direct_toNat (base size : Nat) (s : State) :
    (base < 2 ^ 64 → (pathResults (.direct base size) s).r2.toNat = base) ∧
      (size < 2 ^ 64 → (pathResults (.direct base size) s).r3.toNat = size) :=
  ⟨toNat_zext64Nat, toNat_zext64Nat⟩

/-- Settles O27: the check of the index, then the results of the path, whose R[2] and R[3] are the witnesses. -/
theorem resolveResult : Obligations.ResolveResult := by
  intro s cs hasOut hasIn
  refine ⟨?_, (pathResults (pathOf s.params cs hasOut hasIn) s).r2, (pathResults (pathOf s.params cs hasOut hasIn) s).r3,
    fun base size hpath => hpath ▸ pathResults_direct_toNat base size s, check_eq (by simp) ?_⟩
  · revert cs hasOut hasIn
    decide
  · rw [beginCommand_params]
    cases pathOf s.params cs hasOut hasIn <;> exact congrArg Host.Outcome.next (endCommand_ok_setResults ..)

end Sys2Proof.Machine
end

section
/-! The actions SELECT and DESELECT, each two states of a transfer (O28, O29; spec/42_chipselect.md R151, R152). -/

namespace Sys2Proof.Machine

/-- Two states of a transfer in a row. -/
theorem run_two_of_xfer {s t u : State} {st nxt : XferState} (hwf : s.params.wf = true) (hfsm : s.fsm = .xfer st)
    (hfirst : xferStep st s = .next t) (hparams : t.params = s.params) (hnext : t.fsm = .xfer nxt)
    (hsecond : xferStep nxt t = .next u) : run 2 s = .next u := by
  rw [run_succ 1 ((step_xfer hwf hfsm).trans hfirst), run_succ 0 ((step_xfer (hparams ▸ hwf) hnext).trans hsecond), run_zero]

/-- SELECT as a whole: two accesses, CTRL, SEL and the value read change. -/
theorem stepSelW_stepSelR (s : State) : stepSelW (stepSelR s) = { s with
    fsm := .xfer .body, ctrl := selectValue s.params (claimedIndex s) s.ctrl, sel := true, xfer := { s.xfer with t := s.ctrl }
    trace := s.trace ++ [.regRead .ctrl (regAddr s.params .ctrl) s.ctrl,
      .regWrite .ctrl (regAddr s.params .ctrl) (selectValue s.params (claimedIndex s) s.ctrl)] } := by
  simp [stepSelW, stepSelR, goTo, goWith, emit, claimedIndex]

/-- DESELECT as a whole: two accesses, CTRL, SEL and the value read change. -/
theorem stepDselW_stepDselR (s : State) : stepDselW (stepDselR s) = { s with
    fsm := .xfer .done, ctrl := rmwValue s.ctrl (csEnMask s.params) 0, sel := false, xfer := { s.xfer with t := s.ctrl }
    trace := s.trace ++ [.regRead .ctrl (regAddr s.params .ctrl) s.ctrl,
      .regWrite .ctrl (regAddr s.params .ctrl) (rmwValue s.ctrl (csEnMask s.params) 0)] } := by
  simp [stepDselW, stepDselR, goTo, goWith, emit]

/-- CS_EN_MASK with the default positions (R29). -/
theorem csEnMask_default {p : Params} (hlayout : p.layout = {}) : csEnMask p = 1 := by
  rw [csEnMask, hlayout]
  decide

/-- The value SELECT writes with the default positions (R151). -/
theorem selectValue_default {p : Params} (cs : BitVec 3) (t : Word) (hlayout : p.layout = {}) (hwidth : p.csW = 3) :
    selectValue p cs t = (t &&& ~~~(0x1D : Word)) ||| (cs.setWidth 32 <<< 2) ||| 1 := by
  have hmask : csEnMask p ||| csMask p = 0x1D := by
    rw [csEnMask, csMask, hlayout, hwidth]
    decide
  rw [selectValue, hmask, csEnMask_default hlayout, hlayout, fieldImg_toNat, rmwValue, BitVec.or_assoc]

/-- Settles O28: the two states are SELECT, and a running transfer has the claim of the invariant. -/
theorem selectAction : Obligations.SelectAction := by
  intro s cs v hwf hfsm hcs hv
  have hv : v = selectValue s.params cs s.ctrl := hv
  have hindex : claimedIndex s = cs := by simp [claimedIndex, hcs]
  refine ⟨?_, fun hlayout hwidth => hv.trans (selectValue_default cs s.ctrl hlayout hwidth), fun hinv => ?_⟩
  · rw [run_two_of_xfer hwf hfsm rfl (by simp [stepSelR]) rfl rfl, stepSelW_stepSelR, hindex, hv]
  · have hclaimed := hinv.xfer.xfer_claimed _ hfsm
    obtain ⟨cs', hcs', hvalid⟩ := hinv.core.claimed_cs hclaimed
    cases hcs.symm.trans hcs'
    exact ⟨hclaimed, hvalid⟩

/-- Settles O29: the two states are DESELECT. -/
theorem deselectAction : Obligations.DeselectAction := by
  intro s v hwf hfsm hv
  have hvalue : v = rmwValue s.ctrl (csEnMask s.params) 0 := by simp [hv, rmwValue]
  refine ⟨?_, fun hlayout => ?_⟩
  · rw [run_two_of_xfer hwf hfsm rfl (by simp [stepDselR]) rfl rfl, stepDselW_stepDselR, hvalue]
  · rw [hv, csEnMask_default hlayout]

end Sys2Proof.Machine
end

section
/-! XFER in CHECK and the state P_TMO (O40, O45; spec/43_transfer.md R173, R183). -/

namespace Sys2Proof.Machine

/-- A buffer operand, as a request latches it (R170). -/
theorem bufferOf_eq (present : Bool) (a : DWord) : bufferOf present a = if present then some a.toNat else none := by
  cases present <;> rfl

/-- Settles O40: the three checks in order, and the request that a transfer begins with. -/
theorem xferChecksThenBegins : Obligations.XferChecksThenBegins := by
  intro s b e o i
  refine check_eq ?_ (check_eq ?_ (check_eq ?_ ?_))
  · rw [Bool.not_eq_true', ← Bool.not_eq_true, xferOperandsOk_iff]
    simp only [beginCommand_a0, beginCommand_a1, beginCommand_a2, beginCommand_params, not_and_or, Classical.not_imp, Nat.not_lt,
      ne_eq]
  · simp
  · simp
  · simp [goWith, beginCommand, startXfer, bufferOf_eq, numberVal_eq, claimedIndex, cond_eq_ite]

/-- Settles O45: P_TMO records one timeout, and the policy decides whether the loop stops. -/
theorem timeoutIsRecorded : Obligations.TimeoutIsRecorded := by
  intro s cs hwf hfsm hcs
  rw [step_xfer hwf hfsm]
  cases hpolicy : s.params.timeoutPolicy <;>
    simp [xferStep, stepPTmo, goWith, logTimeout, timedOut, claimedIndex, hcs, hpolicy]

end Sys2Proof.Machine
end

section
/-! What a state of a transfer leaves alone (O47, O48; spec/43_transfer.md R182, R195). -/

namespace Sys2Proof.Machine

/-- INIT, the claim, the shadows, MASK and DWCFG are kept, CFG is written in P_LEN_W alone, DIN is read in P_IN_R alone, and host
memory is written in P_IN_B0 and P_IN_B1 alone (R171, R195). -/
theorem xferStep_keeps {st : XferState} {s t : State} (h : xferStep st s = .next t) :
    (t.mask = s.mask ∧ t.dwcfg = s.dwcfg ∧ t.curClock = s.curClock ∧ t.curMode = s.curMode ∧ t.claimed = s.claimed ∧
        t.claimedCs = s.claimedCs ∧ t.init = s.init) ∧
      (st ≠ .pLenW → t.cfg = s.cfg) ∧ (st ≠ .pInR → t.dinReads = s.dinReads) ∧
      (st ≠ .pInB0 → st ≠ .pInB1 → t.mem = s.mem) := by
  cases st with
  | selR | selW | pLenR | pLenW | pClrR | pClrW | pOutW | pPoll | pInR | pAdv | pTmo | dWW | dBw | dselR | dselW | done =>
    cases h
    simp [stepSelR, stepSelW, stepPLenR, stepPLenW, stepPClrR, stepPClrW, stepPOutW, stepPPoll, stepPInR, stepPAdv, stepPTmo,
      stepDWW, stepDBw, stepDselR, stepDselW, stepDone, setResults]
  | body | pTest | tail =>
    cases h
    simp only [stepBody, stepPTest, stepTail]
    split <;> simp
  | dTest =>
    cases h
    unfold stepDTest
    split
    · simp
    · split <;> simp
  | pOutB0 | pOutB1 =>
    simp only [xferStep, stepPOutB0, stepPOutB1] at h
    split at h
    · cases h
      simp
    · obtain ⟨-, h⟩ := memLoad_next h
      cases h
      simp
  | pInB0 | pInB1 =>
    simp only [xferStep, stepPInB0, stepPInB1] at h
    split at h
    · cases h
      simp
    · obtain ⟨-, h⟩ := memStore_next h
      cases h
      simp
  | dRd0 | dRd1 | dRd2 | dRd3 | dBrd =>
    simp only [xferStep, stepDRd, stepDBrd] at h
    obtain ⟨-, h⟩ := memLoad_next h
    cases h
    simp

/-- The XFERLEN update keeps every other bit of what P_LEN_R read (R177). -/
theorem lenValue_outside (p : Params) (w : Width) (t : Word) :
    lenValue p w t &&& ~~~(xferLenMask p) = t &&& ~~~(xferLenMask p) := by
  refine rmwValue_and_of_disjoint (by simp) ?_
  cases w <;> simp

/-- Settles O47: P_LEN_W writes CFG back as P_LEN_R read it but for XFERLEN, and P_IN_R, which alone reads DIN, is a state of the
polled path with an input buffer. -/
theorem xferNeverTouches : Obligations.XferNeverTouches := by
  intro st s t hinv hfsm h
  rw [step_xfer hinv.core.params_wf hfsm] at h
  obtain ⟨⟨hmask, hdwcfg, hclock, hmode, hclaimed, hcs, hinit⟩, hcfg, hdin, -⟩ := xferStep_keeps h
  refine ⟨hmask, hdwcfg, hclock, hmode, hclaimed, hcs, hinit, ?_, fun hread => ?_⟩
  · by_cases hst : st = .pLenW
    · subst hst
      cases h
      have hlen : (stepPLenW s).cfg = lenValue s.params s.xfer.w s.xfer.t := by simp [stepPLenW]
      rw [hlen, lenValue_outside, hinv.xfer.length_half hfsm]
    · rw [hcfg hst]
  · obtain rfl : st = .pInR := not_imp_comm.1 hdin hread
    exact ⟨hinv.xfer.polled_path _ hfsm rfl, hinv.xfer.in_states (.inl hfsm)⟩

/-- A byte store keeps every other byte. -/
theorem memStore_goTo_keeps {a b : Nat} {v : Byte} {s t : State} {nxt : XferState}
    (h : memStore b v s (fun u => .next (goTo nxt u)) = .next t) (hne : a ≠ b) : memGet t.mem a = memGet s.mem a := by
  obtain ⟨-, h⟩ := memStore_next h
  cases h
  exact memGet_memPut_of_ne s.mem v hne

/-- Settles O48: the two states that store a byte store it at the in cursor and one above it. -/
theorem xferStoresOnlyAtTheInCursor : Obligations.XferStoresOnlyAtTheInCursor := by
  intro st s t hfsm h a hfirst hsecond
  obtain ⟨hwf, -⟩ := step_cases h
  rw [step_xfer hwf hfsm] at h
  by_cases h0 : st = .pInB0
  · subst h0
    simp only [xferStep, stepPInB0] at h
    split at h
    · cases h
      rfl
    · exact memStore_goTo_keeps h (hfirst _ ‹_› rfl)
  by_cases h1 : st = .pInB1
  · subst h1
    simp only [xferStep, stepPInB1] at h
    split at h
    · cases h
      rfl
    · exact memStore_goTo_keeps h (hsecond _ ‹_› rfl)
  obtain ⟨-, -, -, hmem⟩ := xferStep_keeps h
  rw [hmem h0 h1]

end Sys2Proof.Machine
end

section
/-! The parts of a polled word as the rules state them: its launch, its polls, its input and its timeout (O42, O43, O44, O51;
spec/43_transfer.md R177 to R183, R186). -/

namespace Sys2Proof.Machine

/-- Settles O42: the launch of a word leads to its first poll. -/
theorem wordLaunchSequence : Obligations.WordLaunchSequence := by
  intro s w len c hwf hfsm hrem hstop hcursor hbuffer hw hlen hc
  obtain rfl : w = widthFor s.xfer.rem := hw
  have hready : WordReady s := ⟨hwf, hfsm, hrem, hstop, hcursor, hbuffer⟩
  have hvalue : len = lenValue s.params (widthFor s.xfer.rem) s.cfg := by
    rw [hlen]
    by_cases hnarrow : s.xfer.rem ≤ 8 <;> simp [lenValue, rmwValue, widthFor, hnarrow]
  convert hready.reaches_first_poll using 1
  simp [sent, cleared, hvalue, hc, rmwValue]

/-- Settles O43: the polls go on up to the first hit, or else up to the bound. -/
theorem pollLoopIsBounded : Obligations.PollLoopIsBounded := by
  intro s hwf hfsm hn
  refine ⟨fun q hq hmiss hhit => ⟨polled q s, run_polled hwf hfsm q hmiss (by omega), ?_, rfl, ?_⟩, fun hmiss => ?_⟩
  · simp [polled, afterPoll, hhit]
  · simp [polled, Nat.add_assoc]
  · obtain ⟨q, hq⟩ : ∃ q, s.params.pollBound = q + 1 := Nat.exists_eq_add_one.2 (pollBound_pos hwf)
    rw [hq] at hmiss ⊢
    refine ⟨polled q s, run_polled hwf hfsm q (fun j hj => hmiss j (by omega)) (by omega), ?_, rfl, ?_⟩
    · simp [polled, afterPoll, hmiss q (by omega), hn, hq]
    · simp [polled]

/-- The cells of a buffer no longer than the address space are distinct. -/
theorem addrAdd_inj {p : Params} {a j k : Nat} (hj : j < 2 ^ p.addrW) (hk : k < 2 ^ p.addrW) (h : addrAdd p a j = addrAdd p a k) :
    j = k :=
  (Nat.ModEq.add_left_cancel' a h).eq_of_lt_of_lt hj hk

/-- In an address space of more than one byte the next address is another one. -/
theorem ne_addrAdd_one {p : Params} {b : Nat} (hb : b < 2 ^ p.addrW) (hroom : 1 < 2 ^ p.addrW) : b ≠ addrAdd p b 1 := fun h => by
  have h01 := addrAdd_inj (Nat.two_pow_pos _) hroom ((addrAdd_zero hb).trans h)
  omega

/-! The input of a word in host memory (R182; spec/20_memory.md R63): what is stored is read back, and every other byte is kept. -/

section
variable {p : Params} {m : List Host.Cell} {a b : Nat} (w : Width) (d : Word)

theorem memGet_inMem_first (hm : memWf m = true) (hne : b ≠ addrAdd p b 1) :
    memGet (inMem p m b w d) b = d.extractLsb' 0 8 := by
  cases w with
  | one => exact memGet_memPut _ _ hm
  | two => exact (memGet_inMem_two d hm hne).1

theorem memGet_inMem_second (hm : memWf m = true) :
    memGet (inMem p m b .two d) (addrAdd p b 1) = d.extractLsb' 8 8 :=
  memGet_memPut _ _ (memPut_wf _ _ hm)

theorem memGet_inMem_of_ne (h0 : a ≠ b) (h1 : w = .two → a ≠ addrAdd p b 1) : memGet (inMem p m b w d) a = memGet m a := by
  cases w with
  | one => exact memGet_memPut_of_ne _ _ h0
  | two => rw [inMem, memGet_memPut_of_ne _ _ (h1 rfl), memGet_memPut_of_ne _ _ h0]

end

/-- Each byte of the input is one access. -/
theorem length_inWrites (p : Params) (b : Nat) (w : Width) (d : Word) : (inWrites p b w d).length = widthBytes w := by
  cases w <;> rfl

/-- The input of a completed word: taken into the input buffer, if there is one (R182). -/
def inputTaken (s : State) : State :=
  match s.xfer.ip with
  | none => s
  | some b => received b s

/-- A word whose poll showed WC = 1 takes its input and comes to the next P_TEST. -/
theorem reaches_advanced {s : State} (hwf : s.params.wf = true)
    (hfsm : s.fsm = .xfer (if s.xfer.ip.isSome then .pInR else .pAdv))
    (hcursor : ∀ b, s.xfer.ip = some b → b < 2 ^ s.params.addrW)
    (hbuffer : bufferAdmitted s.params s.xfer.ip (widthBytes s.xfer.w)) : Reaches s (stepPAdv (inputTaken s)) := by
  cases hip : s.xfer.ip with
  | none =>
    rw [hip] at hfsm
    simp only [inputTaken, hip]
    exact .head hwf hfsm rfl (.refl _)
  | some b =>
    rw [hip] at hfsm hbuffer
    simp only [inputTaken, hip]
    exact (reaches_received hwf hfsm hip (hcursor b hip) hbuffer).trans (.head (s := received b s) hwf rfl rfl (.refl _))

/-- From a poll that shows WC = 1 to the next P_TEST. -/
theorem reaches_advanced_of_hit {s : State} (hwf : s.params.wf = true) (hfsm : s.fsm = .xfer .pPoll)
    (hhit : wcSet s.params (causeDraw s s.causeReads) = true) (hcursor : ∀ b, s.xfer.ip = some b → b < 2 ^ s.params.addrW)
    (hbuffer : bufferAdmitted s.params s.xfer.ip (widthBytes s.xfer.w)) : Reaches s (stepPAdv (inputTaken (polled 0 s))) := by
  refine .head hwf hfsm (xferStep_pPoll s) (reaches_advanced hwf ?_ hcursor hbuffer)
  simp [polled, afterPoll, hhit]

/-- Settles O44: the input is taken, if there is a buffer for it, and the cursors and counts move. -/
theorem completedWordAdvances : Obligations.CompletedWordAdvances := by
  intro s k hwf hmem hk hfsm hhit
  subst hk
  refine ⟨fun hip => ⟨_, reaches_advanced_of_hit hwf hfsm hhit (by simp [hip]) (by simp [bufferAdmitted, hip]), ?_⟩,
    fun b hip hb hroom hbuffer => ⟨_, reaches_advanced_of_hit hwf hfsm hhit (by simpa [hip] using hb) (by rwa [hip]), ?_⟩⟩
  · simp [inputTaken, polled, hip, stepPAdv, advanced, addrAdd]
  · have hstored : (stepPAdv (inputTaken (polled 0 s))).mem = inMem s.params s.mem b s.xfer.w (dinDraw s s.dinReads) := by
      simp [inputTaken, polled, hip, stepPAdv, received, dinDraw]
    rw [hstored]
    simp only [← and_assoc]
    refine ⟨⟨⟨?_, memGet_inMem_first _ _ hmem (ne_addrAdd_one hb hroom)⟩, fun hw => hw ▸ memGet_inMem_second _ hmem⟩,
      fun a h0 h1 => memGet_inMem_of_ne _ _ h0 h1⟩
    simp [inputTaken, polled, hip, stepPAdv, advanced, received, dinDraw, addrAdd, length_inWrites]
    omega

/-! The words a part of an attempt writes to DOUT (R179). -/

theorem doutWrites_cleared (s : State) : doutWrites (cleared s) = doutWrites s := by
  simp [doutWrites, cleared]

theorem doutWrites_sent (s : State) :
    doutWrites (sent s) = doutWrites s ++ [(outWord s.params s.mem s.xfer.op s.xfer.w).setWidth 32] := by
  cases hop : s.xfer.op <;> cases hw : s.xfer.w <;> simp [doutWrites, sent, outReads, hop, hw]

theorem doutWrites_polled (q : Nat) (s : State) : doutWrites (polled q s) = doutWrites s := by
  simp [doutWrites, polled, List.filterMap_map]

theorem doutWrites_received (b : Nat) (s : State) : doutWrites (received b s) = doutWrites s := by
  cases hw : s.xfer.w <;> simp [doutWrites, received, inWrites, hw]

theorem doutWrites_inputTaken (s : State) : doutWrites (inputTaken s) = doutWrites s := by
  unfold inputTaken
  split
  · rfl
  · exact doutWrites_received _ s

/-- An attempt writes its output word to DOUT once. -/
theorem doutWrites_polled_sent_cleared (q : Nat) (s : State) : doutWrites (polled q (sent (cleared s))) =
    doutWrites s ++ [(outWord s.params s.mem s.xfer.op (widthFor s.xfer.rem)).setWidth 32] := by
  rw [doutWrites_polled, doutWrites_sent, doutWrites_cleared]
  rfl

theorem doutWrites_timedOutWord (s : State) : doutWrites (timedOutWord s) =
    doutWrites s ++ [(outWord s.params s.mem s.xfer.op (widthFor s.xfer.rem)).setWidth 32] :=
  doutWrites_polled_sent_cleared _ s

theorem timedOutWord_timeoutTotal (s : State) : (timedOutWord s).timeoutTotal = s.timeoutTotal + 1 := rfl

/-- Settles O51: the attempt times out, and its word is at P_TEST as it was. -/
theorem timedOutWordIsRetried : Obligations.TimedOutWordIsRetried := by
  intro s w hwf hpolicy hfsm hrem hstop hcursor hw hbuffer hmiss
  obtain rfl : w = widthFor s.xfer.rem := hw
  have hready : WordReady s := ⟨hwf, hfsm, hrem, hstop, hcursor, hbuffer⟩
  have hreads := timedOutWord_causeReads hwf
  have hmoved : timedOutWord s ≠ s := fun h => by
    rw [h] at hreads
    omega
  refine ⟨timedOutWord s, hready.reaches_timedOutWord hmiss, hmoved, timedOutWord_fsm s, ?_⟩
  simp only [timedOutWord_xfer hpolicy, timedOutWord_mem, timedOutWord_timeoutTotal, doutWrites_timedOutWord, hreads, hstop,
    true_and]
  omega

end Sys2Proof.Machine
end

section
/-! A word that never completes under CONTINUE (O52; spec/43_transfer.md R187): the states of its attempts follow each other without
end. -/

namespace Sys2Proof.Machine

/-- A word is being tried, under CONTINUE: it has bits to send and its output bytes are in `HOST_MEM`. -/
structure WordTried (s : State) : Prop where
  wf : s.params.wf = true
  policy : s.params.timeoutPolicy = .continues
  bits_left : 4 < s.xfer.rem
  running : s.xfer.stop = false
  out_cursor : ∀ a, s.xfer.op = some a → a < 2 ^ s.params.addrW
  out_admitted : bufferAdmitted s.params s.xfer.op (widthBytes (widthFor s.xfer.rem))

/-- The same word of the same transfer, under the same draws of CAUSE. -/
structure SameWord (s t : State) : Prop where
  params : t.params = s.params
  causeScript : t.causeScript = s.causeScript
  rem : t.xfer.rem = s.xfer.rem
  words : t.xfer.words = s.xfer.words
  stop : t.xfer.stop = s.xfer.stop
  op : t.xfer.op = s.xfer.op

theorem SameWord.trans {s t u : State} (h : SameWord s t) (k : SameWord t u) : SameWord s u :=
  ⟨k.params.trans h.params, k.causeScript.trans h.causeScript, k.rem.trans h.rem, k.words.trans h.words, k.stop.trans h.stop,
    k.op.trans h.op⟩

theorem WordTried.of_same {s t : State} (h : WordTried s) (hsame : SameWord s t) : WordTried t := by
  obtain ⟨hparams, -, hrem, -, hstop, hop⟩ := hsame
  obtain ⟨_, _, _, _, _, _⟩ := h
  constructor <;> simp only [hparams, hrem, hstop, hop] <;> assumption

/-- What holds in each state of an attempt that has made `k` reads of CAUSE: the clear makes the first and each poll one more
(R178, R181). -/
def AttemptPlace (t : State) (k : Nat) : XferState → Prop
  | .pTest | .pLenR => k = 0
  | .pLenW | .pClrR => k = 0 ∧ t.xfer.w = widthFor t.xfer.rem
  | .pClrW | .pOutB0 => k = 1 ∧ t.xfer.w = widthFor t.xfer.rem
  | .pOutB1 => k = 1 ∧ widthFor t.xfer.rem = .two
  | .pOutW => k = 1
  | .pPoll => k = t.xfer.n + 1 ∧ t.xfer.n < t.params.pollBound
  | .pTmo => k = t.params.pollBound + 1
  | _ => False

/-- How a state `u` of the attempts at a word follows `t`, where the attempt had made `k` reads of CAUSE: with no read, with one read,
or as the start of the next attempt after a timeout. -/
inductive NextInAttempt (t : State) (k : Nat) (u : State) : Prop
  | quiet {nxt : XferState} (same : SameWord t u) (at_next : u.fsm = .xfer nxt) (reads : u.causeReads = t.causeReads)
      (place : AttemptPlace u k nxt)
  | read {nxt : XferState} (same : SameWord t u) (at_next : u.fsm = .xfer nxt) (reads : u.causeReads = t.causeReads + 1)
      (place : AttemptPlace u (k + 1) nxt)
  | again {nxt : XferState} (same : SameWord t u) (at_next : u.fsm = .xfer nxt) (reads : u.causeReads = t.causeReads)
      (expired : k = t.params.pollBound + 1) (place : AttemptPlace u 0 nxt)

/-- A state of an attempt whose poll, if it makes one, shows WC = 0 is followed by a state of the attempts. -/
theorem WordTried.next_in_attempt {t : State} {k : Nat} {st : XferState} (h : WordTried t) (hplace : AttemptPlace t k st)
    (hmiss : st = .pPoll → wcSet t.params (causeDraw t t.causeReads) = false) :
    ∃ u, xferStep st t = .next u ∧ NextInAttempt t k u := by
  obtain ⟨hwf, hpolicy, hrem, hstop, hcursor, hbuffer⟩ := h
  cases st with
  | pTest =>
    refine ⟨goTo .pLenR t, ?_, .quiet (by constructor <;> rfl) rfl rfl hplace⟩
    simp [xferStep, stepPTest, hrem, hstop]
  | pLenR => exact ⟨_, rfl, .quiet (by constructor <;> rfl) rfl rfl ⟨hplace, rfl⟩⟩
  | pLenW => exact ⟨_, rfl, .quiet (by constructor <;> rfl) rfl rfl hplace⟩
  | pClrR =>
    obtain ⟨rfl, hw⟩ := hplace
    exact ⟨_, rfl, .read (by constructor <;> rfl) rfl rfl ⟨rfl, hw⟩⟩
  | pClrW =>
    refine ⟨_, rfl, .quiet (by constructor <;> rfl) rfl rfl ?_⟩
    split
    · exact hplace
    · exact hplace.1
  | pOutB0 =>
    obtain ⟨rfl, hw⟩ := hplace
    cases hop : t.xfer.op with
    | none =>
      simp only [xferStep, stepPOutB0, hop]
      exact ⟨_, rfl, .quiet (by constructor <;> rfl) rfl rfl rfl⟩
    | some a =>
      rw [hop] at hbuffer
      have hfirst := admits_first hbuffer (hcursor a hop)
      simp only [xferStep, stepPOutB0, hop, memLoad_admitted hfirst]
      refine ⟨_, rfl, .quiet (by constructor <;> rfl) rfl rfl ?_⟩
      rw [emit_xfer, hw]
      cases hwidth : widthFor t.xfer.rem with
      | one => rfl
      | two => exact ⟨rfl, hwidth⟩
  | pOutB1 =>
    obtain ⟨rfl, hw⟩ := hplace
    cases hop : t.xfer.op with
    | none =>
      simp only [xferStep, stepPOutB1, hop]
      exact ⟨_, rfl, .quiet (by constructor <;> rfl) rfl rfl rfl⟩
    | some a =>
      rw [hop, hw] at hbuffer
      simp only [xferStep, stepPOutB1, hop, memLoad_admitted (admits_second hbuffer)]
      exact ⟨_, rfl, .quiet (by constructor <;> rfl) rfl rfl rfl⟩
  | pOutW => exact ⟨_, rfl, .quiet (by constructor <;> rfl) rfl rfl ⟨hplace, pollBound_pos hwf⟩⟩
  | pPoll =>
    obtain ⟨rfl, hn⟩ := hplace
    refine ⟨_, xferStep_pPoll t, .read (by constructor <;> rfl) rfl rfl ?_⟩
    have hnext : afterPoll 0 t = if t.xfer.n + 1 < t.params.pollBound then .pPoll else .pTmo := by simp [afterPoll, hmiss]
    rw [hnext]
    split
    · exact ⟨rfl, ‹_›⟩
    · exact congrArg (· + 1) (Nat.le_antisymm hn (Nat.le_of_not_lt ‹_›))
  | pTmo =>
    refine ⟨_, rfl, .again ?_ rfl rfl hplace rfl⟩
    constructor <;> simp [stepPTmo, timedOut, hpolicy]
  | _ => exact hplace.elim

/-- A poll that follows `a` attempts and `i` polls of the next one, all counted from `s`, is not the read of a clear: it shows WC = 0. -/
theorem SameWord.poll_misses {s t : State} {n a i : Nat} (h : SameWord s t) (hi : i < s.params.pollBound)
    (hreads : t.causeReads = s.causeReads + (a * (s.params.pollBound + 1) + (i + 1)))
    (hlt : a * (s.params.pollBound + 1) + (i + 1) < n)
    (hmiss : ∀ j, j < n → j % (s.params.pollBound + 1) ≠ 0 → wcSet s.params (causeDraw s (s.causeReads + j)) = false) :
    wcSet t.params (causeDraw t t.causeReads) = false := by
  have hpoll : (a * (s.params.pollBound + 1) + (i + 1)) % (s.params.pollBound + 1) ≠ 0 := by
    rw [Nat.mul_add_mod_self_right, Nat.mod_eq_of_lt (by omega)]
    exact Nat.succ_ne_zero i
  have hread := hmiss _ hlt hpoll
  rwa [← hreads, ← h.params, show causeDraw s = causeDraw t by funext k; rw [causeDraw, causeDraw, h.causeScript]] at hread

/-- As long as no poll shows WC = 1, every state after `s` is a state of an attempt at the word of `s`. The reads of CAUSE are counted
from `s`, so that those of the clears are the ones at a multiple of `POLL_BOUND + 1`. -/
theorem WordTried.run_attempts {s : State} {n : Nat} (h : WordTried s) (hfsm : s.fsm = .xfer .pTest)
    (hmiss : ∀ j, j < n → j % (s.params.pollBound + 1) ≠ 0 → wcSet s.params (causeDraw s (s.causeReads + j)) = false) :
    ∃ t st a k, run n s = .next t ∧ SameWord s t ∧ t.fsm = .xfer st ∧ AttemptPlace t k st ∧
      t.causeReads = s.causeReads + (a * (s.params.pollBound + 1) + k) ∧ a * (s.params.pollBound + 1) + k ≤ n := by
  induction n with
  | zero => exact ⟨s, .pTest, 0, 0, rfl, by constructor <;> rfl, hfsm, rfl, by simp, by simp⟩
  | succ n ih =>
    obtain ⟨t, st, a, k, hrun, hsame, hat, hplace, hreads, hle⟩ := ih fun j hj => hmiss j (Nat.lt_succ_of_lt hj)
    have htried := h.of_same hsame
    have hpoll : st = .pPoll → wcSet t.params (causeDraw t t.causeReads) = false := by
      rintro rfl
      obtain ⟨rfl, hn⟩ := hplace
      exact hsame.poll_misses (hsame.params ▸ hn) hreads (by omega) hmiss
    obtain ⟨u, hstep, hnext⟩ := htried.next_in_attempt hplace hpoll
    have hrun' : run (n + 1) s = .next u := by
      rw [run_add 1 hrun, run_succ 0 ((step_xfer htried.wf hat).trans hstep), run_zero]
    cases hnext with
    | quiet same at_next reads place =>
      exact ⟨u, _, a, k, hrun', hsame.trans same, at_next, place, reads.trans hreads, by omega⟩
    | read same at_next reads place =>
      exact ⟨u, _, a, k + 1, hrun', hsame.trans same, at_next, place, by omega, by omega⟩
    | again same at_next reads expired place =>
      rw [hsame.params] at expired
      have hround : (a + 1) * (s.params.pollBound + 1) = a * (s.params.pollBound + 1) + (s.params.pollBound + 1) := Nat.succ_mul ..
      exact ⟨u, _, a + 1, 0, hrun', hsame.trans same, at_next, place, by omega, by omega⟩

/-- Settles O52: after any number of steps the machine is in an attempt at the same word. -/
theorem neverCompletingWordHangs : Obligations.NeverCompletingWordHangs := by
  intro s n hwf hpolicy hfsm hrem hstop hcursor hbuffer hmiss
  have htried : WordTried s := ⟨hwf, hpolicy, hrem, hstop, hcursor, hbuffer⟩
  obtain ⟨t, st, -, -, hrun, hsame, hat, -⟩ := htried.run_attempts hfsm hmiss
  exact ⟨t, st, hrun, hat, hsame.rem, hsame.words⟩

end Sys2Proof.Machine
end

section
/-! The two ends of an XFER as equations, and a transfer of at most 4 bits, which is nothing but them (O58; spec/43_transfer.md R171
to R174). -/

namespace Sys2Proof.Machine

/-- An accepted XFER at its strategy: the request is latched, and SELECT has made its two accesses if the flag asks for it (R151,
R173). -/
theorem begun_eq (bgn nd o i : Bool) (s : State) : begun bgn nd o i s = { s with
    fsm := .xfer .body, r1 := 0, r2 := 0, r3 := 0
    ctrl := if bgn then selectValue s.params (claimedIndex s) s.ctrl else s.ctrl
    sel := if bgn then true else s.sel
    xfer := { startXfer nd o i s with t := if bgn then s.ctrl else 0 }
    trace := s.trace ++ selectAccesses s.params bgn s.ctrl (selectValue s.params (claimedIndex s) s.ctrl) } := by
  cases bgn with
  | false => simp [begun, selectedIf, goWith, beginCommand, selectAccesses, startXfer, Xfer.idle]
  | true => simp [begun, selectedIf, stepSelW_stepSelR, goWith, beginCommand, selectAccesses, claimedIndex]

/-- The end of an XFER: DESELECT makes its two accesses if the flag asks for it, and the results are written (R152, R172). -/
theorem ended_tail_eq (s : State) : ended (goTo .tail s) = { s with
    fsm := .idle, xfer := Xfer.idle
    r0 := statusCode s.xfer.status, r1 := zext64Nat s.xfer.words, r2 := zext64Nat s.xfer.tmo, r3 := pathCode s.xfer.path
    violation := s.violation || isViolation s.xfer.status
    ctrl := if s.xfer.endSel then s.ctrl &&& ~~~(csEnMask s.params) else s.ctrl
    sel := if s.xfer.endSel then false else s.sel
    trace := s.trace ++ selectAccesses s.params s.xfer.endSel s.ctrl (s.ctrl &&& ~~~(csEnMask s.params)) } := by
  cases hend : s.xfer.endSel with
  | false => simp [ended, stepTail, deselectedIf, hend, stepDone, endCommand, setResults, goTo, selectAccesses]
  | true =>
    simp [ended, stepTail, deselectedIf, hend, stepDselW_stepDselR, stepDone, endCommand, setResults, goTo, selectAccesses,
      rmwValue]

/-- The accepted operands of an XFER (R94, R173). -/
theorem xferOperandsOk_of_lt {s : State} {o i : Bool} (hbits : s.a0.toNat < 2 ^ 32)
    (hout : o = true → s.a1.toNat < 2 ^ s.params.addrW) (hin : i = true → s.a2.toNat < 2 ^ s.params.addrW) :
    xferOperandsOk o i s = true :=
  (xferOperandsOk_iff o i s).2 ⟨(numberOk_iff _).1 ((numberOk_iff_lt _).2 hbits), hout, hin⟩

/-- The status number of a path (R172). -/
theorem pathCode_eq (path : Path) : pathCode path = if path = .polled then 0 else 1 := by
  cases path <;> rfl

/-- With at most 4 bits, or with no byte to stream, the strategy does nothing. -/
theorem reaches_ended_of_body {s : State} (hwf : s.params.wf = true) (hfsm : s.fsm = .xfer .body) (hrem : s.xfer.rem ≤ 4)
    (hleft : s.xfer.path ≠ .polled → s.xfer.left = 0) : Reaches s (ended (goTo .tail s)) := by
  cases hpath : s.xfer.path with
  | polled =>
    have hstep : xferStep .body s = .next (goTo .pTest s) := by simp [xferStep, stepBody, hpath]
    exact .head hwf hfsm hstep (reaches_ended_of_test (s := goTo .pTest s) hwf rfl hrem)
  | direct base size =>
    have hstep : xferStep .body s = .next (goTo .dTest s) := by simp [xferStep, stepBody, hpath]
    have htest : xferStep .dTest (goTo .dTest s) = .next (goTo .tail s) := by
      simp [xferStep, stepDTest, hleft, hpath, goTo]
    exact .head hwf hfsm hstep (.head (s := goTo .dTest s) hwf rfl htest (reaches_ended hwf rfl))

/-- Settles O58: the transfer begins, its strategy does nothing, and it ends. -/
theorem tinyTransferMovesNoData : Obligations.TinyTransferMovesNoData := by
  intro s bgn nd o i c hwf hinit hclaimed hbits hout hin hdirect hc
  have hoperands := xferOperandsOk_of_lt (show s.a0.toNat < 2 ^ 32 by omega) hout hin
  obtain ⟨u, hexec, hbegin, -⟩ := exec_xfer_reaches bgn nd o i hwf hoperands hinit hclaimed
  refine ⟨u, hexec, ?_⟩
  rw [begun_eq] at hbegin
  have hnumber := numberVal_of_lt (show s.a0.toNat < 2 ^ 32 by omega)
  have hend := hbegin.trans (reaches_ended_of_body hwf rfl (by simpa [startXfer, hnumber] using hbits)
    (by simpa [startXfer, hnumber] using hdirect))
  rw [ended_tail_eq] at hend
  convert hend using 1
  subst hc
  cases bgn <;> simp [startXfer, Xfer.idle, statusCode, isViolation, pathCode_eq, selectAccesses]

end Sys2Proof.Machine
end

section
/-! A direct transfer (O59; spec/43_transfer.md R190, R192): full words, then tail bytes, all written to the window's base. -/

namespace Sys2Proof.Machine

/-- The little-endian word at byte `j` of a buffer (spec/20_memory.md R63). -/
def bufferWord (p : Params) (m : List Host.Cell) (a j : Nat) : Word :=
  memGet m (addrAdd p a (j + 3)) ++ memGet m (addrAdd p a (j + 2)) ++ memGet m (addrAdd p a (j + 1)) ++ memGet m (addrAdd p a j)

/-- The accesses that stream the word at byte `j`. -/
def wordAccesses (p : Params) (m : List Host.Cell) (base a j : Nat) : List Event :=
  [byteRead p m a j, byteRead p m a (j + 1), byteRead p m a (j + 2), byteRead p m a (j + 3),
    .winWrite base 4 (bufferWord p m a j)]

/-- The accesses that stream byte `j` alone. -/
def byteAccesses (p : Params) (m : List Host.Cell) (base a j : Nat) : List Event :=
  [byteRead p m a j, .winWrite base 1 ((memGet m (addrAdd p a j)).setWidth 32)]

/-- At D_TEST, after `j` bytes from address `a` have been streamed in `k` window writes with the accesses `evs`. -/
def streaming (a j k : Nat) (acc : Word) (evs : List Event) (s : State) : State :=
  { s with
    fsm := .xfer .dTest
    xfer := { s.xfer with op := some (addrAdd s.params a j), left := s.xfer.left - j, words := s.xfer.words + k, acc := acc }
    trace := s.trace ++ evs }

/-- Four bytes put together as D_RD does it. -/
theorem or_shifted_bytes (b0 b1 b2 b3 : Byte) :
    b0.setWidth 32 ||| b1.setWidth 32 <<< 8 ||| b2.setWidth 32 <<< 16 ||| b3.setWidth 32 <<< 24 = b3 ++ b2 ++ b1 ++ b0 := by
  refine BitVec.eq_of_getLsbD_eq fun i hi => ?_
  have hpast (b : Byte) {k : Nat} (hk : 8 ≤ k) : b.getLsbD k = false := BitVec.getLsbD_of_ge b k hk
  have hin (k : Nat) : i - k < 32 := by omega
  simp only [BitVec.getLsbD_or, BitVec.getLsbD_setWidth, BitVec.getLsbD_shiftLeft, BitVec.getLsbD_append, Nat.sub_sub, hi, hin]
  by_cases h8 : i < 8
  · simp [h8, show i < 16 by omega, show i < 24 by omega]
  have h0 := hpast b0 (k := i) (by omega)
  by_cases h16 : i < 16
  · simp [h8, h16, h0, show i < 24 by omega, show i - 8 < 8 by omega]
  have h1 := hpast b1 (k := i - 8) (by omega)
  have h1' : ¬ i - 8 < 8 := by omega
  by_cases h24 : i < 24
  · simp [h8, h16, h24, h0, h1, h1', show i - 16 < 8 by omega]
  · have h2 := hpast b2 (k := i - 16) (by omega)
    simp [h8, h16, h24, h0, h1, h1', h2, show ¬ i - 16 < 8 by omega]

/-- D_TEST to D_TEST with at least 4 bytes left: one full word. -/
theorem reaches_streamed_word {s : State} {base size a j k : Nat} {acc : Word} {evs : List Event} (hwf : s.params.wf = true)
    (hpath : s.xfer.path = .direct base size) (hleft : j + 4 ≤ s.xfer.left)
    (hbuffer : bufferAdmitted s.params (some a) s.xfer.left) :
    Reaches (streaming a j k acc evs s) (streaming a (j + 4) (k + 1) (bufferWord s.params s.mem a j)
      (evs ++ wordAccesses s.params s.mem base a j) s) := by
  have hadmit (d : Nat) (hd : d < 4) : admits s.params (addrAdd s.params a (j + d)) = true := hbuffer a rfl _ (by omega)
  have h0 : admits s.params (addrAdd s.params a j) = true := hadmit 0 (by decide)
  have h1 := hadmit 1 (by decide)
  have h2 := hadmit 2 (by decide)
  have h3 := hadmit 3 (by decide)
  have hmore : 4 ≤ s.xfer.left - j := by omega
  refine ⟨6, ?_⟩
  simp [run, step, hwf, streaming, xferStep, stepDTest, hmore, stepDRd, memLoad_admitted, addrAdd_addrAdd, h0, h1, h2, h3, goTo,
    goWith, emit, stepDWW, windowBase, hpath, streamed, wordAccesses, byteRead, or_shifted_bytes, bufferWord, Nat.add_assoc,
    Nat.sub_sub]

/-- D_TEST to D_TEST with 1 to 3 bytes left: one byte. -/
theorem reaches_streamed_byte {s : State} {base size a j k : Nat} {acc : Word} {evs : List Event} (hwf : s.params.wf = true)
    (hpath : s.xfer.path = .direct base size) (hleft : j < s.xfer.left) (hfew : s.xfer.left < j + 4)
    (hbuffer : bufferAdmitted s.params (some a) s.xfer.left) :
    Reaches (streaming a j k acc evs s) (streaming a (j + 1) (k + 1) ((memGet s.mem (addrAdd s.params a j)).setWidth 32)
      (evs ++ byteAccesses s.params s.mem base a j) s) := by
  have hadmit : admits s.params (addrAdd s.params a j) = true := hbuffer a rfl j hleft
  have hfew : ¬ 4 ≤ s.xfer.left - j := by omega
  have hmore : 0 < s.xfer.left - j := by omega
  refine ⟨3, ?_⟩
  simp [run, step, hwf, streaming, xferStep, stepDTest, hmore, hfew, stepDBrd, memLoad_admitted, addrAdd_addrAdd, hadmit, goTo,
    goWith, emit, stepDBw, windowBase, hpath, streamed, byteAccesses, byteRead, Nat.add_assoc, Nat.sub_sub]

/-- The full words. -/
theorem reaches_streamed_words {s : State} {base size a n : Nat} (hwf : s.params.wf = true)
    (hpath : s.xfer.path = .direct base size) (hn : 4 * n ≤ s.xfer.left)
    (hbuffer : bufferAdmitted s.params (some a) s.xfer.left) : ∃ acc, Reaches (streaming a 0 0 s.xfer.acc [] s)
      (streaming a (4 * n) n acc ((List.range n).flatMap fun k => wordAccesses s.params s.mem base a (4 * k)) s) := by
  induction n with
  | zero => exact ⟨_, .refl _⟩
  | succ n ih =>
    obtain ⟨acc, hreach⟩ := ih (by omega)
    rw [List.range_succ, List.flatMap_append, List.flatMap_singleton]
    exact ⟨_, hreach.trans (reaches_streamed_word hwf hpath (by omega) hbuffer)⟩

/-- The tail bytes. -/
theorem reaches_streamed_bytes {s : State} {base size a j k n : Nat} {acc : Word} {evs : List Event} (hwf : s.params.wf = true)
    (hpath : s.xfer.path = .direct base size) (hn : j + n ≤ s.xfer.left) (hfew : s.xfer.left < j + 4)
    (hbuffer : bufferAdmitted s.params (some a) s.xfer.left) : ∃ acc', Reaches (streaming a j k acc evs s)
      (streaming a (j + n) (k + n) acc' (evs ++ (List.range n).flatMap fun i => byteAccesses s.params s.mem base a (j + i)) s) := by
  induction n with
  | zero => exact ⟨acc, by simpa using .refl _⟩
  | succ n ih =>
    obtain ⟨acc', hreach⟩ := ih (by omega)
    rw [List.range_succ, List.flatMap_append, List.flatMap_singleton, ← List.append_assoc]
    exact ⟨_, hreach.trans (reaches_streamed_byte hwf hpath (by omega) (by omega) hbuffer)⟩

theorem streamedAccesses_eq (p : Params) (m : List Host.Cell) (base a n : Nat) : streamedAccesses p m base a n =
    ((List.range (n / 4)).flatMap fun k => wordAccesses p m base a (4 * k)) ++
      (List.range (n % 4)).flatMap fun i => byteAccesses p m base a (4 * (n / 4) + i) := rfl

/-- From D_TEST with the whole buffer ahead to D_TEST with nothing left: all bytes are streamed. -/
theorem reaches_streamed_buffer {s : State} {base size a : Nat} (hwf : s.params.wf = true)
    (hpath : s.xfer.path = .direct base size) (hbuffer : bufferAdmitted s.params (some a) s.xfer.left) :
    ∃ acc, Reaches (streaming a 0 0 s.xfer.acc [] s)
      (streaming a s.xfer.left (s.xfer.left / 4 + s.xfer.left % 4) acc
        (streamedAccesses s.params s.mem base a s.xfer.left) s) := by
  obtain ⟨acc, hwords⟩ := reaches_streamed_words (n := s.xfer.left / 4) hwf hpath (by omega) hbuffer
  obtain ⟨acc', hbytes⟩ := reaches_streamed_bytes (j := 4 * (s.xfer.left / 4)) (k := s.xfer.left / 4) (n := s.xfer.left % 4)
    (acc := acc) (evs := _) hwf hpath (by omega) (by omega) hbuffer
  rw [Nat.div_add_mod] at hbytes
  exact ⟨acc', hwords.trans hbytes⟩

/-- From the strategy of a direct transfer to its end. -/
theorem reaches_ended_of_direct {s : State} {base size a : Nat} (hwf : s.params.wf = true) (hfsm : s.fsm = .xfer .body)
    (hpath : s.xfer.path = .direct base size) (hop : s.xfer.op = some a) (ha : a < 2 ^ s.params.addrW)
    (hbuffer : bufferAdmitted s.params (some a) s.xfer.left) :
    ∃ acc, Reaches s (ended (goTo .tail (streaming a s.xfer.left (s.xfer.left / 4 + s.xfer.left % 4) acc
      (streamedAccesses s.params s.mem base a s.xfer.left) s))) := by
  have hstart : goTo .dTest s = streaming a 0 0 s.xfer.acc [] s := by simp [goTo, streaming, addrAdd_zero ha, ← hop]
  have hstep : xferStep .body s = .next (goTo .dTest s) := by simp [xferStep, stepBody, hpath]
  obtain ⟨acc, hstream⟩ := reaches_streamed_buffer hwf hpath hbuffer
  refine ⟨acc, .head hwf hfsm (hstart ▸ hstep) (hstream.trans ?_)⟩
  refine .head (st := .dTest) hwf rfl ?_ (reaches_ended hwf rfl)
  simp [xferStep, stepDTest, streaming]

/-- SELECT and DESELECT make no window write, and the streamed accesses make those of R190. -/
theorem windowWrites_of_streamed {p : Params} {m : List Host.Cell} {s t : State} {bgn nd : Bool} {base a n : Nat} {v w x y : Word}
    (h : t.trace = s.trace ++ selectAccesses p bgn v w ++ streamedAccesses p m base a n ++ selectAccesses p nd x y) :
    windowWrites t = windowWrites s ++ streamedWrites p m base a n := by
  rw [windowWrites, h]
  cases bgn <;> cases nd <;>
    simp [windowWrites, selectAccesses, streamedAccesses, streamedWrites, byteRead, List.filterMap_flatMap, List.map_eq_flatMap]

/-- Settles O59: the transfer begins, streams its buffer and ends. -/
theorem directTransferStreamsTheBuffer : Obligations.DirectTransferStreamsTheBuffer := by
  intro s bgn nd base size n hwf hinit hclaimed hbits hout hpath hn hbuffer c hc
  have hoperands : xferOperandsOk true false s = true := xferOperandsOk_of_lt hbits (fun _ => hout) (by simp)
  obtain ⟨u, hexec, hbegin, hbody⟩ := exec_xfer_reaches bgn nd true false hwf hoperands hinit hclaimed
  have hv := begun_eq bgn nd true false s
  generalize begun bgn nd true false s = v at *
  have hleft : v.xfer.left = n := by simp [hv, startXfer, numberVal_of_lt hbits, hn]
  have hparams : v.params = s.params := by simp [hv]
  obtain ⟨acc, hend⟩ := reaches_ended_of_direct (base := base) (size := size) (a := s.a1.toNat) (by rwa [hparams]) hbody
    (by simp [hv, startXfer, hpath]) (by simp [hv, startXfer, bufferOf]) (by rwa [hparams]) (by rwa [hparams, hleft])
  have ht := ended_tail_eq (streaming s.a1.toNat v.xfer.left (v.xfer.left / 4 + v.xfer.left % 4) acc
    (streamedAccesses v.params v.mem base s.a1.toNat v.xfer.left) v)
  rw [hleft] at hend ht
  generalize ended _ = t at hend ht
  have htrace : t.trace = s.trace ++ selectAccesses s.params bgn s.ctrl c ++ streamedAccesses s.params s.mem base s.a1.toNat n ++
      selectAccesses s.params nd c (c &&& ~~~(csEnMask s.params)) := by
    cases bgn <;> simp [ht, hc, hv, streaming, startXfer, selectAccesses]
  refine ⟨u, t, hexec, hbegin.trans hend, by rw [ht], ?_, fun hfits => ?_, ?_, ?_, windowWrites_of_streamed htrace, htrace, ?_⟩
  · simp [ht, streaming, hv, startXfer, Xfer.idle, statusCode]
  · simp [ht, streaming, hv, startXfer, Xfer.idle, toNat_zext64Nat hfits]
  · simp [ht, streaming, hv, startXfer, Xfer.idle]
  · simp [ht, streaming, hv, startXfer, hpath, pathCode]
  · simp [ht, streaming, hv, startXfer, Xfer.idle]

end Sys2Proof.Machine
end

section
/-! A polled transfer, word by word (O54; spec/43_transfer.md R182, R184, R186, R189). -/

namespace Sys2Proof.Machine

/-- What a word that completes at poll `q + 1` of its attempt `r + 1` does, from its P_TEST to the next (R182, R183, R186). -/
structure WordRun (s : State) (r q : Nat) (t : State) : Prop where
  params : t.params = s.params
  causeScript : t.causeScript = s.causeScript
  dinScript : t.dinScript = s.dinScript
  at_test : t.fsm = .xfer .pTest
  sel : t.sel = s.sel
  violation : t.violation = s.violation
  endSel : t.xfer.endSel = s.xfer.endSel
  path : t.xfer.path = s.xfer.path
  stop : t.xfer.stop = s.xfer.stop
  status : t.xfer.status = s.xfer.status
  op : t.xfer.op = s.xfer.op.map fun a => addrAdd s.params a (widthBytes (widthFor s.xfer.rem))
  ip : t.xfer.ip = s.xfer.ip.map fun b => addrAdd s.params b (widthBytes (widthFor s.xfer.rem))
  rem : t.xfer.rem = s.xfer.rem - 8 * (widthBytes (widthFor s.xfer.rem) : Int)
  words : t.xfer.words = s.xfer.words + 1
  tmo : t.xfer.tmo = s.xfer.tmo + r
  timeoutTotal : t.timeoutTotal = s.timeoutTotal + BitVec.ofNat 32 r
  diag : t.diag.length = s.diag.length + r
  causeReads : t.causeReads = s.causeReads + (r * (s.params.pollBound + 1) + q + 2)
  dinReads : t.dinReads = s.dinReads + if s.xfer.ip.isSome then 1 else 0
  mem_without_input : s.xfer.ip = none → t.mem = s.mem
  mem_with_input : ∀ b, s.xfer.ip = some b → t.mem = inMem s.params s.mem b (widthFor s.xfer.rem) (dinDraw s s.dinReads)
  dout : doutWrites t = doutWrites s ++
    List.replicate (r + 1) ((outWord s.params s.mem s.xfer.op (widthFor s.xfer.rem)).setWidth 32)

/-- The next P_TEST after a word that completes at poll `q + 1` of its first attempt. -/
def firstAttempt (q : Nat) (s : State) : State := stepPAdv (inputTaken (polled q (sent (cleared s))))

theorem doutWrites_firstAttempt (q : Nat) (s : State) : doutWrites (firstAttempt q s) =
    doutWrites s ++ [(outWord s.params s.mem s.xfer.op (widthFor s.xfer.rem)).setWidth 32] :=
  (doutWrites_inputTaken _).trans (doutWrites_polled_sent_cleared q s)

theorem wordRun_firstAttempt (q : Nat) (s : State) : WordRun s 0 q (firstAttempt q s) := by
  have hreads : (firstAttempt q s).causeReads = s.causeReads + 1 + q + 1 := by
    cases hip : s.xfer.ip <;> simp [firstAttempt, inputTaken, hip, stepPAdv, received, polled, sent, cleared]
  cases hip : s.xfer.ip <;> constructor
  case none.dout | some.dout => exact doutWrites_firstAttempt q s
  case none.causeReads | some.causeReads => omega
  all_goals simp [firstAttempt, inputTaken, hip, stepPAdv, advanced, received, polled, sent, cleared, dinDraw]

/-- An attempt that completes comes to the next P_TEST. -/
theorem WordReady.reaches_firstAttempt {s : State} {q : Nat} (h : WordReady s) (hdone : attemptCompletes s s.causeReads q)
    (hcursor : ∀ b, s.xfer.ip = some b → b < 2 ^ s.params.addrW)
    (hbuffer : bufferAdmitted s.params s.xfer.ip (widthBytes (widthFor s.xfer.rem))) : Reaches s (firstAttempt q s) := by
  obtain ⟨hq, hmiss, hhit⟩ := hdone
  have hn : (sent (cleared s)).xfer.n + q < s.params.pollBound := by
    rw [show (sent (cleared s)).xfer.n = 0 from rfl, Nat.zero_add]
    exact hq
  refine h.reaches_first_poll.trans (.trans ⟨q + 1, run_polled (s := sent (cleared s)) h.wf rfl q hmiss hn⟩
    (reaches_advanced (s := polled q (sent (cleared s))) h.wf (congrArg Fsm.xfer (if_pos hhit)) hcursor hbuffer))

/-! What a timeout keeps and counts, as a word that is tried again needs it. -/

theorem timedOutWord_keeps (s : State) : (timedOutWord s).sel = s.sel ∧ (timedOutWord s).violation = s.violation ∧
    (timedOutWord s).diag.length = s.diag.length + 1 := by
  simp [timedOutWord, stepPTmo, polled, sent, cleared]

theorem timedOutWord_dinDraw (s : State) (k : Nat) : dinDraw (timedOutWord s) k = dinDraw s k := by
  simp [dinDraw]

/-- A word that is tried again after a timeout under CONTINUE. -/
theorem WordRun.after_timeout {s t : State} {r q : Nat} (hwf : s.params.wf = true) (hpolicy : s.params.timeoutPolicy = .continues)
    (h : WordRun (timedOutWord s) r q t) : WordRun s (r + 1) q t := by
  obtain ⟨hsel, hviolation, hdiag⟩ := timedOutWord_keeps s
  have hx := timedOutWord_xfer hpolicy
  obtain ⟨_, _, _, _, _, _, _, _, _, _, _, _, _, _, htmo, htotal, hdiag', hreads, _, _, _, hdout⟩ := h
  simp only [timedOutWord_params, hx, timedOutWord_causeScript, timedOutWord_dinScript, timedOutWord_dinReads, timedOutWord_mem,
    hsel, hviolation, hdiag, timedOutWord_timeoutTotal, timedOutWord_causeReads hwf, doutWrites_timedOutWord,
    timedOutWord_dinDraw] at *
  constructor
  case tmo => omega
  case timeoutTotal => rw [htotal, BitVec.add_assoc, BitVec.add_comm 1, BitVec.ofNat_add]; rfl
  case diag => omega
  case causeReads => rw [hreads, Nat.succ_mul]; omega
  case dout => rw [hdout, List.append_assoc]; rfl
  all_goals assumption

/-- A word that completes on some attempt comes to the next P_TEST (R186). -/
theorem WordReady.reaches_word {s : State} {r q : Nat} (h : WordReady s) (hpolicy : 0 < r → s.params.timeoutPolicy = .continues)
    (hfail : ∀ i, i < r → attemptFails s (s.causeReads + i * (s.params.pollBound + 1)))
    (hdone : attemptCompletes s (s.causeReads + r * (s.params.pollBound + 1)) q)
    (hcursor : ∀ b, s.xfer.ip = some b → b < 2 ^ s.params.addrW)
    (hbuffer : bufferAdmitted s.params s.xfer.ip (widthBytes (widthFor s.xfer.rem))) : ∃ t, Reaches s t ∧ WordRun s r q t := by
  induction r generalizing s with
  | zero => exact ⟨_, h.reaches_firstAttempt (by simpa using hdone) hcursor hbuffer, wordRun_firstAttempt q s⟩
  | succ r ih =>
    have hcont := hpolicy (Nat.succ_pos r)
    have hattempts := attempts_congr (timedOutWord_params s) (timedOutWord_causeScript s)
    have hlater (i : Nat) : (timedOutWord s).causeReads + i * (s.params.pollBound + 1) =
        s.causeReads + (i + 1) * (s.params.pollBound + 1) := by
      rw [timedOutWord_causeReads h.wf, Nat.succ_mul]
      omega
    have hfirst : attemptFails s s.causeReads := by simpa using hfail 0 (Nat.succ_pos r)
    obtain ⟨t, hreach, hrun⟩ := ih (h.after_timeout hcont) (fun _ => hcont)
      (fun i hi => by
        rw [timedOutWord_params, hlater, (hattempts _ 0).1]
        exact hfail (i + 1) (Nat.succ_lt_succ hi))
      (by
        rw [timedOutWord_params, hlater, (hattempts _ q).2]
        exact hdone)
      (by simpa [timedOutWord_xfer hcont] using hcursor) (by simpa [timedOutWord_xfer hcont] using hbuffer)
    exact ⟨t, (h.reaches_timedOutWord hfirst).trans hreach, hrun.after_timeout h.wf hcont⟩

/-- A word and then the others, down to at most 4 bits. -/
inductive WordsRun : List (Nat × Nat) → State → State → Prop
  | nil {s : State} (done : s.xfer.rem ≤ 4) : WordsRun [] s s
  | cons {r q : Nat} {ws : List (Nat × Nat)} {s u t : State} (bits_left : 4 < s.xfer.rem) (first : WordRun s r q u)
      (rest : WordsRun ws u t) : WordsRun ((r, q) :: ws) s t

/-- The width of a word by the bits left (R177). -/
theorem widthFor_cases (rem : Int) : (rem ≤ 8 ∧ widthFor rem = .one) ∨ (8 < rem ∧ widthFor rem = .two) := by
  unfold widthFor
  split
  · exact .inl ⟨‹_›, rfl⟩
  · exact .inr ⟨by omega, rfl⟩

/-- The count of words without its cases (R189): the last word is one of at least 5 bits. -/
theorem polledWords_eq (b : Nat) : polledWords b = (b + 11) / 16 := by
  unfold polledWords
  split
  · omega
  · split <;> omega

/-- The count of bytes: one for each word, and one more for each word of more than 8 bits. -/
theorem polledBytes_eq (b : Nat) : polledBytes b = (b + 11) / 16 + (b + 7) / 16 := by
  unfold polledBytes
  split
  · omega
  · split <;> omega

/-- The first word takes one from the count of words. -/
theorem polledWords_step {rem : Int} (hrem : 4 < rem) :
    polledWords rem.toNat = polledWords (rem - 8 * (widthBytes (widthFor rem) : Int)).toNat + 1 := by
  rw [polledWords_eq, polledWords_eq]
  obtain ⟨hle, hw⟩ | ⟨hlt, hw⟩ := widthFor_cases rem <;> rw [hw] <;> simp only [widthBytes] <;> omega

/-- And its width from the count of bytes. -/
theorem polledBytes_step {rem : Int} (hrem : 4 < rem) : polledBytes rem.toNat =
    widthBytes (widthFor rem) + polledBytes (rem - 8 * (widthBytes (widthFor rem) : Int)).toNat := by
  rw [polledBytes_eq, polledBytes_eq]
  obtain ⟨hle, hw⟩ | ⟨hlt, hw⟩ := widthFor_cases rem <;> rw [hw] <;> simp only [widthBytes] <;> omega

/-- No word is left exactly with at most 4 bits (R174, R175). -/
theorem polledWords_eq_zero_iff {rem : Int} : polledWords rem.toNat = 0 ↔ rem ≤ 4 := by
  rw [polledWords_eq]
  omega

/-- A shorter buffer is admitted. -/
theorem bufferAdmitted_of_le {p : Params} {buf : Option Nat} {m n : Nat} (h : bufferAdmitted p buf n) (hle : m ≤ n) :
    bufferAdmitted p buf m :=
  fun a ha j hj => h a ha j (by omega)

/-- The rest of a buffer is admitted. -/
theorem bufferAdmitted_advance {p : Params} {buf : Option Nat} {k n : Nat} (h : bufferAdmitted p buf (k + n)) :
    bufferAdmitted p (buf.map fun a => addrAdd p a k) n := by
  intro a ha j hj
  obtain ⟨a', ha', rfl⟩ := Option.map_eq_some_iff.1 ha
  rw [addrAdd_addrAdd]
  exact h a' ha' (k + j) (by omega)

/-- A cursor that has advanced is an address. -/
theorem advanced_cursor_lt {p : Params} {buf : Option Nat} {k : Nat} :
    ∀ a, (buf.map fun a => addrAdd p a k) = some a → a < 2 ^ p.addrW := by
  intro a ha
  obtain ⟨a', -, rfl⟩ := Option.map_eq_some_iff.1 ha
  exact addrAdd_lt p a' k

/-- At P_TEST of a polled transfer whose remaining buffers are in `HOST_MEM`. -/
structure PolledReady (s : State) : Prop where
  wf : s.params.wf = true
  at_test : s.fsm = .xfer .pTest
  running : s.xfer.stop = false
  out_cursor : ∀ a, s.xfer.op = some a → a < 2 ^ s.params.addrW
  in_cursor : ∀ a, s.xfer.ip = some a → a < 2 ^ s.params.addrW
  out_admitted : bufferAdmitted s.params s.xfer.op (polledBytes s.xfer.rem.toNat)
  in_admitted : bufferAdmitted s.params s.xfer.ip (polledBytes s.xfer.rem.toNat)

/-- A word completes and the transfer goes on. -/
theorem PolledReady.after_word {s t : State} {r q : Nat} (h : PolledReady s) (hrem : 4 < s.xfer.rem) (hrun : WordRun s r q t) :
    PolledReady t := by
  obtain ⟨hwf, -, hstop, -, -, hout, hin⟩ := h
  rw [polledBytes_step hrem] at hout hin
  constructor
  case wf => rw [hrun.params, hwf]
  case at_test => exact hrun.at_test
  case running => rw [hrun.stop, hstop]
  case out_cursor =>
    rw [hrun.params, hrun.op]
    exact advanced_cursor_lt
  case in_cursor =>
    rw [hrun.params, hrun.ip]
    exact advanced_cursor_lt
  case out_admitted =>
    rw [hrun.params, hrun.op, hrun.rem]
    exact bufferAdmitted_advance hout
  case in_admitted =>
    rw [hrun.params, hrun.ip, hrun.rem]
    exact bufferAdmitted_advance hin

/-- A polled transfer each of whose words completes on some attempt runs them all (R189). -/
theorem PolledReady.reaches_words {s : State} {ws : List (Nat × Nat)} (h : PolledReady s)
    (hlength : ws.length = polledWords s.xfer.rem.toNat) (hws : wordsComplete s s.causeReads ws) :
    ∃ t, Reaches s t ∧ WordsRun ws s t ∧ t.params.wf = true ∧ t.fsm = .xfer .pTest ∧ t.xfer.rem ≤ 4 := by
  induction ws generalizing s with
  | nil =>
    have hdone := polledWords_eq_zero_iff.1 hlength.symm
    exact ⟨s, .refl s, .nil hdone, h.wf, h.at_test, hdone⟩
  | cons w ws ih =>
    obtain ⟨r, q⟩ := w
    obtain ⟨hpolicy, hfail, hdone, hrest⟩ := hws
    have hrem : 4 < s.xfer.rem := by
      by_contra hrem
      rw [polledWords_eq_zero_iff.2 (by omega)] at hlength
      cases hlength
    have hbytes := polledBytes_step hrem
    have hready : WordReady s :=
      ⟨h.wf, h.at_test, hrem, h.running, h.out_cursor, bufferAdmitted_of_le h.out_admitted (by omega)⟩
    obtain ⟨u, hreach, hrun⟩ := hready.reaches_word hpolicy hfail hdone h.in_cursor
      (bufferAdmitted_of_le h.in_admitted (by omega))
    obtain ⟨t, hreach', hruns, hend⟩ := ih (h.after_word hrem hrun)
      (by rw [hrun.rem]; rw [polledWords_step hrem] at hlength; exact Nat.succ.inj hlength)
      (by
        rw [wordsComplete_congr hrun.params hrun.causeScript, hrun.causeReads]
        simpa [Nat.add_assoc] using hrest)
    exact ⟨t, hreach.trans hreach', .cons hrem hrun hruns, hend⟩

end Sys2Proof.Machine
end

section
/-! A whole polled XFER (O54; spec/43_transfer.md R172, R184, R186, R189). -/

namespace Sys2Proof.Machine

/-- What the words of a transfer keep of its request and of the machine. -/
structure WordsKeep (s t : State) : Prop where
  sel : t.sel = s.sel
  violation : t.violation = s.violation
  endSel : t.xfer.endSel = s.xfer.endSel
  path : t.xfer.path = s.xfer.path
  status : t.xfer.status = s.xfer.status

theorem WordsRun.keeps {ws : List (Nat × Nat)} {s t : State} (h : WordsRun ws s t) : WordsKeep s t := by
  induction h with
  | nil => constructor <;> rfl
  | cons _ first _ ih =>
    exact ⟨ih.sel.trans first.sel, ih.violation.trans first.violation, ih.endSel.trans first.endSel, ih.path.trans first.path,
      ih.status.trans first.status⟩

/-- What the words of a transfer count (R182, R183, R189). -/
structure WordsCount (ws : List (Nat × Nat)) (s t : State) : Prop where
  words : t.xfer.words = s.xfer.words + ws.length
  tmo : t.xfer.tmo = s.xfer.tmo + retries ws
  timeoutTotal : t.timeoutTotal = s.timeoutTotal + BitVec.ofNat 32 (retries ws)
  diag : t.diag.length = s.diag.length + retries ws
  causeReads : t.causeReads = s.causeReads + causeReadsOf s.params ws
  dinReads : t.dinReads = s.dinReads + if s.xfer.ip.isSome then ws.length else 0

theorem WordsRun.counts {ws : List (Nat × Nat)} {s t : State} (h : WordsRun ws s t) : WordsCount ws s t := by
  induction h with
  | nil => constructor <;> simp
  | @cons r q ws s u t _ first _ ih =>
    constructor
    case words => rw [ih.words, first.words, List.length_cons]; omega
    case tmo => rw [ih.tmo, first.tmo, retries_cons, Nat.add_assoc]
    case timeoutTotal => rw [ih.timeoutTotal, first.timeoutTotal, retries_cons, BitVec.ofNat_add, BitVec.add_assoc]
    case diag => rw [ih.diag, first.diag, retries_cons, Nat.add_assoc]
    case causeReads => rw [ih.causeReads, first.causeReads, first.params, causeReadsOf_cons, Nat.add_assoc]
    case dinReads =>
      rw [ih.dinReads, first.dinReads, first.ip, Option.isSome_map, List.length_cons]
      split <;> omega

/-- An accepted polled XFER of `b` bits with admitted buffers, each of whose words completes on some attempt. -/
structure PolledRequest (s : State) (o i : Bool) (b : Nat) (ws : List (Nat × Nat)) : Prop where
  wf : s.params.wf = true
  init : s.init = true
  claimed : s.claimed = true
  bits : s.a0.toNat = b
  bits_lt : b < 2 ^ 32
  out_lt : o = true → s.a1.toNat < 2 ^ s.params.addrW
  in_lt : i = true → s.a2.toNat < 2 ^ s.params.addrW
  path : pathOf s.params (claimedIndex s) o i = .polled
  out_admitted : bufferAdmitted s.params (if o then some s.a1.toNat else none) (polledBytes b)
  in_admitted : bufferAdmitted s.params (if i then some s.a2.toNat else none) (polledBytes b)
  length : ws.length = polledWords b
  complete : wordsComplete s s.causeReads ws

/-- The first P_TEST of a polled XFER. -/
def firstTest (bgn nd o i : Bool) (s : State) : State := goTo .pTest (begun bgn nd o i s)

theorem firstTest_eq (bgn nd o i : Bool) (s : State) : firstTest bgn nd o i s = { s with
    fsm := .xfer .pTest, r1 := 0, r2 := 0, r3 := 0
    ctrl := if bgn then selectValue s.params (claimedIndex s) s.ctrl else s.ctrl
    sel := if bgn then true else s.sel
    xfer := { startXfer nd o i s with t := if bgn then s.ctrl else 0 }
    trace := s.trace ++ selectAccesses s.params bgn s.ctrl (selectValue s.params (claimedIndex s) s.ctrl) } := by
  rw [firstTest, begun_eq]
  rfl

section
variable (bgn nd o i : Bool) (s : State)

@[simp] theorem firstTest_params : (firstTest bgn nd o i s).params = s.params := by rw [firstTest_eq]
@[simp] theorem firstTest_mem : (firstTest bgn nd o i s).mem = s.mem := by rw [firstTest_eq]
@[simp] theorem firstTest_dinScript : (firstTest bgn nd o i s).dinScript = s.dinScript := by rw [firstTest_eq]
@[simp] theorem firstTest_dinReads : (firstTest bgn nd o i s).dinReads = s.dinReads := by rw [firstTest_eq]
@[simp] theorem firstTest_op : (firstTest bgn nd o i s).xfer.op = if o then some s.a1.toNat else none := by
  rw [firstTest_eq, ← bufferOf_eq]
  rfl
@[simp] theorem firstTest_ip : (firstTest bgn nd o i s).xfer.ip = if i then some s.a2.toNat else none := by
  rw [firstTest_eq, ← bufferOf_eq]
  rfl

end

section
variable {s : State} {o i : Bool} {b : Nat} {ws : List (Nat × Nat)} (h : PolledRequest s o i b ws) (bgn nd : Bool)
include h

theorem PolledRequest.numberVal_eq : numberVal s.a0 = b := by
  rw [numberVal_of_lt (h.bits ▸ h.bits_lt), h.bits]

theorem PolledRequest.firstTest_rem : (firstTest bgn nd o i s).xfer.rem = b := by
  rw [firstTest_eq, ← h.numberVal_eq]
  rfl

/-- The buffers that the operands name are those of the transfer. -/
theorem PolledRequest.ready : PolledReady (firstTest bgn nd o i s) := by
  constructor
  case wf => rw [firstTest_params, h.wf]
  case at_test => rfl
  case running =>
    rw [firstTest_eq]
    rfl
  case out_cursor => simpa using h.out_lt
  case in_cursor => simpa using h.in_lt
  case out_admitted => simpa [h.firstTest_rem] using h.out_admitted
  case in_admitted => simpa [h.firstTest_rem] using h.in_admitted

/-- An accepted polled XFER whose words complete runs its words between its two ends. -/
theorem PolledRequest.exec_ends : ∃ u w, exec (.xfer bgn nd o i) s = .next u ∧ WordsRun ws (firstTest bgn nd o i s) w ∧
      Reaches u (ended (goTo .tail w)) := by
  have hoperands := xferOperandsOk_of_lt (h.bits ▸ h.bits_lt) h.out_lt h.in_lt
  obtain ⟨u, hexec, hbegin, hbody⟩ := exec_xfer_reaches bgn nd o i h.wf hoperands h.init h.claimed
  have hpolled : (begun bgn nd o i s).xfer.path = .polled := by
    rw [begun_eq]
    exact h.path
  have hwf : (begun bgn nd o i s).params.wf = true := by
    rw [begun_eq]
    exact h.wf
  have hstep : xferStep .body (begun bgn nd o i s) = .next (firstTest bgn nd o i s) := by
    simp [xferStep, stepBody, hpolled, firstTest]
  have hlength : ws.length = polledWords (firstTest bgn nd o i s).xfer.rem.toNat := by
    rw [h.firstTest_rem bgn nd, Int.toNat_natCast, h.length]
  have hcomplete : wordsComplete (firstTest bgn nd o i s) (firstTest bgn nd o i s).causeReads ws := by
    rw [wordsComplete_congr (firstTest_params bgn nd o i s) (by rw [firstTest_eq]), firstTest_eq]
    exact h.complete
  obtain ⟨w, hreach, hruns, hwfw, htest, hrem⟩ := (h.ready bgn nd).reaches_words hlength hcomplete
  exact ⟨u, w, hexec, hruns, hbegin.trans (.head hwf hbody hstep (hreach.trans (reaches_ended_of_test hwfw htest hrem)))⟩

end

/-- DONE with an end of R184: the counts are in R[1] and R[2] where they fit, and no contract is violated. -/
theorem stepDone_results {s : State} (hstatus : s.xfer.status = .ok ∨ s.xfer.status = .wordTimeout) :
    (stepDone s).r0 = (if s.xfer.status = .ok then 0 else 4) ∧
      (s.xfer.words < 2 ^ 64 → (stepDone s).r1.toNat = s.xfer.words) ∧
      (s.xfer.tmo < 2 ^ 64 → (stepDone s).r2.toNat = s.xfer.tmo) ∧
      (stepDone s).r3 = (if s.xfer.path = .polled then 0 else 1) ∧ (stepDone s).violation = s.violation := by
  refine ⟨?_, toNat_zext64Nat, toNat_zext64Nat, pathCode_eq _, ?_⟩
  · obtain h | h := hstatus <;> simp [stepDone, h, statusCode]
  · obtain h | h := hstatus <;> simp [stepDone, setResults, h, isViolation]

/-- Settles O54: DONE writes the results, and an accepted polled XFER begins, runs its words and ends with what they count. -/
theorem polledTransferCompletes : Obligations.PolledTransferCompletes := by
  refine ⟨fun s hwf hfsm hstatus => ?_, fun s bgn nd o i b ws hwf hinit hclaimed hbits hlt hout hin hpath houtBuffer hinBuffer
    hlength hws => ?_⟩
  · obtain ⟨hr0, hr1, hr2, hr3, hviolation⟩ := stepDone_results hstatus
    refine ⟨stepDone s, step_xfer hwf hfsm, hr0, hr1, hr2, hr3, ?_⟩
    conv_rhs => rw [← hviolation]
    rfl
  · have hrequest : PolledRequest s o i b ws :=
      ⟨hwf, hinit, hclaimed, hbits, hlt, hout, hin, hpath, houtBuffer, hinBuffer, hlength, hws⟩
    obtain ⟨u, w, hexec, hruns, hend⟩ := hrequest.exec_ends bgn nd
    obtain ⟨hsel, hviolation, hendSel, hpath', hstatus⟩ := hruns.keeps
    obtain ⟨hwords, htmo, htotal, hdiag, hcauses, hdins⟩ := hruns.counts
    have hv := firstTest_eq bgn nd o i s
    generalize firstTest bgn nd o i s = v at *
    have hfits : polledWords b < 2 ^ 64 := by
      rw [polledWords_eq]
      omega
    rw [ended_tail_eq] at hend
    refine ⟨u, _, hexec, hend, rfl, ?_, ?_, ?_, ?_, ?_, ?_, ?_, ?_, ?_, ?_⟩
    · simp [hstatus, hv, startXfer, Xfer.idle, statusCode]
    · simp [hwords, hv, startXfer, Xfer.idle, hlength, toNat_zext64Nat hfits]
    · intro h
      simp [htmo, hv, startXfer, Xfer.idle, toNat_zext64Nat h]
    · simp [hpath', hv, startXfer, hpath, pathCode]
    · simp [hviolation, hstatus, hv, startXfer, Xfer.idle, isViolation]
    · simp [htotal, hv]
    · simp [hdiag, hv]
    · simp [hendSel, hsel, hv, startXfer, Xfer.idle]
    · simp [hcauses, hv]
    · simp [hdins, hv, hlength, startXfer, bufferOf_eq]

end Sys2Proof.Machine
end

section
/-! What a polled XFER sends from its out buffer (O55; spec/43_transfer.md R179, R186, R189). -/

namespace Sys2Proof.Machine

/-- Words follow a word only if it is a halfword (R177, R189). -/
theorem widthFor_eq_two_of_rest {rem : Int} (hrest : 4 < rem - 8 * (widthBytes (widthFor rem) : Int)) : widthFor rem = .two := by
  obtain ⟨hle, hw⟩ | ⟨-, hw⟩ := widthFor_cases rem
  · rw [hw, widthBytes] at hrest
    omega
  · exact hw

/-- The output word depends on its bytes alone. -/
theorem outWord_congr {p : Params} {m m' : List Host.Cell} {a : Nat} {w : Width} (ha : a < 2 ^ p.addrW)
    (hsame : ∀ j, j < widthBytes w → memGet m (addrAdd p a j) = memGet m' (addrAdd p a j)) :
    outWord p m (some a) w = outWord p m' (some a) w := by
  have h0 := hsame 0 (by cases w <;> decide)
  rw [addrAdd_zero ha] at h0
  cases w with
  | one => simp only [outWord, h0]
  | two => simp only [outWord, h0, hsame 1 (by decide)]

/-- The words of a buffer: the first, once for every attempt, and those of the rest of the buffer. -/
theorem sentWords_cons {p : Params} (m : List Host.Cell) {a r q : Nat} {rem : Int} (ws : List (Nat × Nat)) (ha : a < 2 ^ p.addrW)
    (hrem : 4 < rem) : sentWords p m a rem.toNat ((r, q) :: ws) =
      List.replicate (r + 1) ((outWord p m (some a) (widthFor rem)).setWidth 32) ++
        sentWords p m (addrAdd p a (widthBytes (widthFor rem))) (rem - 8 * (widthBytes (widthFor rem) : Int)).toNat ws := by
  rw [sentWords, polledWords_step hrem, List.range_succ_eq_map, List.flatMap_cons, List.flatMap_map]
  congr 1
  · simp [addrAdd_zero ha, widthFor]
  · by_cases hrest : 4 < rem - 8 * (widthBytes (widthFor rem) : Int)
    · have hw := widthFor_eq_two_of_rest hrest
      rw [hw, sentWords]
      refine List.flatMap_congr fun j _ => ?_
      have hcursor : addrAdd p (addrAdd p a (widthBytes .two)) (2 * j) = addrAdd p a (2 * (j + 1)) := by
        rw [addrAdd_addrAdd, widthBytes, Nat.mul_succ, Nat.add_comm]
      have hleft : (rem - 8 * (widthBytes .two : Int)).toNat - 16 * j = rem.toNat - 16 * (j + 1) := by
        rw [widthBytes]
        omega
      rw [hcursor, hleft, List.getElem?_cons_succ]
    · simp [sentWords, polledWords_eq_zero_iff.2 (Int.not_lt.1 hrest)]

/-- Storing the input of a word keeps every byte outside it. -/
theorem memGet_inMem_outside {p : Params} {m : List Host.Cell} {b c : Nat} {w : Width} (d : Word) (hb : b < 2 ^ p.addrW)
    (hne : ∀ j, j < widthBytes w → c ≠ addrAdd p b j) : memGet (inMem p m b w d) c = memGet m c := by
  have h0 := hne 0 (by cases w <;> decide)
  rw [addrAdd_zero hb] at h0
  exact memGet_inMem_of_ne w d h0 fun hw => hne 1 (by rw [hw]; decide)

/-- A word keeps every byte that is not one of its input. -/
theorem WordRun.mem_outside {s t : State} {r q c : Nat} (h : WordRun s r q t)
    (hb : ∀ b, s.xfer.ip = some b → b < 2 ^ s.params.addrW)
    (hne : ∀ b, s.xfer.ip = some b → ∀ j, j < widthBytes (widthFor s.xfer.rem) → c ≠ addrAdd s.params b j) :
    memGet t.mem c = memGet s.mem c := by
  cases hip : s.xfer.ip with
  | none => rw [h.mem_without_input hip]
  | some b =>
    rw [h.mem_with_input b hip]
    exact memGet_inMem_outside _ (hb b hip) (hne b hip)

/-- The words of a transfer read their output bytes from the buffer as it was, if the input does not meet it. -/
theorem WordsRun.sends {ws : List (Nat × Nat)} {s t : State} (h : WordsRun ws s t) {m : List Host.Cell} {a : Nat}
    (hop : s.xfer.op = some a) (ha : a < 2 ^ s.params.addrW) (hb : ∀ b, s.xfer.ip = some b → b < 2 ^ s.params.addrW)
    (hsame : ∀ j, j < polledBytes s.xfer.rem.toNat →
      memGet s.mem (addrAdd s.params a j) = memGet m (addrAdd s.params a j))
    (hapart : ∀ b, s.xfer.ip = some b → ∀ j k, j < polledBytes s.xfer.rem.toNat → k < polledBytes s.xfer.rem.toNat →
      addrAdd s.params a j ≠ addrAdd s.params b k) :
    doutWrites t = doutWrites s ++ sentWords s.params m a s.xfer.rem.toNat ws := by
  induction h generalizing a with
  | nil done => simp [sentWords, polledWords_eq_zero_iff.2 done]
  | @cons r q ws s u t bits_left first rest ih =>
    have hbytes := polledBytes_step bits_left
    rw [first.params, first.op, first.ip, first.rem] at ih
    rw [sentWords_cons m ws ha bits_left, ← outWord_congr ha (fun j hj => hsame j (by omega)), ← List.append_assoc, ← hop,
      ← first.dout]
    refine ih (by rw [hop]; rfl) (addrAdd_lt _ _ _) advanced_cursor_lt (fun j hj => ?_) fun b hb' j k hj hk => ?_
    · rw [addrAdd_addrAdd, ← hsame _ (by omega)]
      exact first.mem_outside hb fun b hip k hk => hapart b hip _ k (by omega) (by omega)
    · obtain ⟨b', hip, rfl⟩ := Option.map_eq_some_iff.1 hb'
      rw [addrAdd_addrAdd, addrAdd_addrAdd]
      exact hapart b' hip _ _ (by omega) (by omega)

/-- Without an input buffer the words of a transfer leave host memory alone. -/
theorem WordsRun.mem_without_input {ws : List (Nat × Nat)} {s t : State} (h : WordsRun ws s t) (hip : s.xfer.ip = none) :
    t.mem = s.mem := by
  induction h with
  | nil => rfl
  | cons _ first _ ih => rw [ih (by rw [first.ip, hip]; rfl), first.mem_without_input hip]

/-- The ends of an XFER write nothing to DOUT. -/
theorem doutWrites_firstTest (bgn nd o i : Bool) (s : State) : doutWrites (firstTest bgn nd o i s) = doutWrites s := by
  rw [firstTest_eq]
  cases bgn <;> simp [doutWrites, selectAccesses]

theorem doutWrites_ended (s : State) : doutWrites (ended (goTo .tail s)) = doutWrites s := by
  rw [ended_tail_eq]
  cases hend : s.xfer.endSel <;> simp [doutWrites, selectAccesses]

/-- After its words a polled XFER ends with OK (R184). -/
theorem WordsRun.ended_ok {s w : State} {bgn nd o i : Bool} {ws : List (Nat × Nat)}
    (hruns : WordsRun ws (firstTest bgn nd o i s) w) :
    (ended (goTo .tail w)).fsm = .idle ∧ (ended (goTo .tail w)).r0 = 0 := by
  obtain ⟨hidle, hr0, -⟩ := ended_eq (goTo .tail w)
  refine ⟨hidle, ?_⟩
  rw [hr0, goTo_xfer, hruns.keeps.status, firstTest_eq]
  rfl

/-- Settles O55: the words of the transfer send the buffer. -/
theorem polledTransferSendsTheBuffer : Obligations.PolledTransferSendsTheBuffer := by
  intro s bgn nd i b ws hwf hinit hclaimed hbits hlt hout hin hpath houtBuffer hinBuffer hapart hlength hws
  have hrequest : PolledRequest s true i b ws :=
    ⟨hwf, hinit, hclaimed, hbits, hlt, fun _ => hout, hin, hpath, houtBuffer, hinBuffer, hlength, hws⟩
  obtain ⟨u, w, hexec, hruns, hend⟩ := hrequest.exec_ends bgn nd
  obtain ⟨hidle, hok⟩ := hruns.ended_ok
  have hcursor := (hrequest.ready bgn nd).in_cursor
  have hrem := hrequest.firstTest_rem bgn nd
  have hmeet : ∀ c, (firstTest bgn nd true i s).xfer.ip = some c → ∀ j k, j < polledBytes b → k < polledBytes b →
      addrAdd s.params s.a1.toNat j ≠ addrAdd s.params c k := by
    intro c hc
    obtain ⟨hi, rfl⟩ : i = true ∧ s.a2.toNat = c := by simpa using hc
    exact hapart hi
  refine ⟨u, _, hexec, hend, hidle, hok, ?_, fun hi => ?_⟩
  · rw [doutWrites_ended, hruns.sends (m := s.mem) (a := s.a1.toNat) (by simp) (by simpa using hout) hcursor (by simp)
      (by simpa [hrem] using hmeet), doutWrites_firstTest, firstTest_params, hrem, Int.toNat_natCast]
  · obtain ⟨-, -, -, hmem⟩ := ended_eq (goTo .tail w)
    rw [hmem, goTo_mem, hruns.mem_without_input (by simp [hi]), firstTest_mem]

end Sys2Proof.Machine
end

section
/-! What a polled XFER leaves in its in buffer (O56; spec/43_transfer.md R182, R185; spec/20_memory.md R63). -/

namespace Sys2Proof.Machine

/-- The input of a word is read back, byte by byte. -/
theorem memGet_inMem_inside {p : Params} {m : List Host.Cell} {b j : Nat} {w : Width} (d : Word) (hm : memWf m = true)
    (hb : b < 2 ^ p.addrW) (hroom : widthBytes w ≤ 2 ^ p.addrW) (hj : j < widthBytes w) :
    memGet (inMem p m b w d) (addrAdd p b j) = d.extractLsb' (8 * j) 8 := by
  cases w with
  | one =>
    obtain rfl : j = 0 := Nat.lt_one_iff.1 hj
    rw [addrAdd_zero hb]
    exact memGet_memPut _ _ hm
  | two =>
    obtain rfl | rfl : j = 0 ∨ j = 1 := Nat.le_one_iff_eq_zero_or_eq_one.1 (Nat.le_of_lt_succ hj)
    · rw [addrAdd_zero hb]
      exact memGet_inMem_first _ d hm (ne_addrAdd_one hb hroom)
    · exact memGet_inMem_second d hm

/-- Storing the input of a word keeps the canonical form. -/
theorem inMem_wf {p : Params} {m : List Host.Cell} (b : Nat) (w : Width) (d : Word) (hm : memWf m = true) :
    memWf (inMem p m b w d) = true := by
  cases w with
  | one => exact memPut_wf _ _ hm
  | two => exact memPut_wf _ _ (memPut_wf _ _ hm)

/-- From `m` to `m'` the `n` bytes from `b` on are filled with the draws from number `k` on, little-endian, and no other byte
changes. -/
structure Filled (p : Params) (draw : Nat → Word) (k b n : Nat) (m m' : List Host.Cell) : Prop where
  inside : ∀ j, j < n → memGet m' (addrAdd p b j) = (draw (k + j / 2)).extractLsb' (8 * (j % 2)) 8
  outside : ∀ c, (∀ j, j < n → c ≠ addrAdd p b j) → memGet m' c = memGet m c

/-- A first word and the rest of a buffer make the buffer. -/
theorem Filled.cons {p : Params} {draw : Nat → Word} {k b n : Nat} {w : Width} {m m' : List Host.Cell} (hm : memWf m = true)
    (hb : b < 2 ^ p.addrW) (hroom : widthBytes w + n ≤ 2 ^ p.addrW) (hrest : 0 < n → w = .two)
    (h : Filled p draw (k + 1) (addrAdd p b (widthBytes w)) n (inMem p m b w (draw k)) m') :
    Filled p draw k b (widthBytes w + n) m m' := by
  have hwide : widthBytes w ≤ 2 := by cases w <;> decide
  refine ⟨fun j hj => ?_, fun c hc => ?_⟩
  · by_cases hfirst : j < widthBytes w
    · have hapart : ∀ i, i < n → addrAdd p b j ≠ addrAdd p (addrAdd p b (widthBytes w)) i := by
        intro i hi heq
        rw [addrAdd_addrAdd] at heq
        have := addrAdd_inj (by omega) (by omega) heq
        omega
      rw [h.outside _ hapart, memGet_inMem_inside _ hm hb (by omega) hfirst, show j / 2 = 0 by omega, show j % 2 = j by omega,
        Nat.add_zero]
    · have htwo : widthBytes w = 2 := by rw [hrest (by omega), widthBytes]
      have hin := h.inside (j - 2) (by omega)
      rwa [addrAdd_addrAdd, htwo, show 2 + (j - 2) = j by omega, show k + 1 + (j - 2) / 2 = k + j / 2 by omega,
        show (j - 2) % 2 = j % 2 by omega] at hin
  · have hlater : ∀ i, i < n → c ≠ addrAdd p (addrAdd p b (widthBytes w)) i := by
      intro i hi
      rw [addrAdd_addrAdd]
      exact hc _ (by omega)
    rw [h.outside c hlater, memGet_inMem_outside _ hb fun i hi => hc i (by omega)]

/-- The DIN draws are those of the script and the free values. -/
theorem dinDraw_congr {s t : State} (h : t.dinScript = s.dinScript) : dinDraw t = dinDraw s := by
  funext k
  rw [dinDraw, dinDraw, h]

/-- The words of a transfer fill the rest of its in buffer, one DIN draw for each word. -/
theorem WordsRun.fills {ws : List (Nat × Nat)} {s t : State} (h : WordsRun ws s t) {b : Nat} (hip : s.xfer.ip = some b)
    (hm : memWf s.mem = true) (hb : b < 2 ^ s.params.addrW) (hroom : polledBytes s.xfer.rem.toNat ≤ 2 ^ s.params.addrW) :
    Filled s.params (dinDraw s) s.dinReads b (polledBytes s.xfer.rem.toNat) s.mem t.mem := by
  induction h generalizing b with
  | nil done =>
    rw [polledBytes, if_pos (by omega)]
    exact ⟨fun j hj => absurd hj (Nat.not_lt_zero j), fun c _ => rfl⟩
  | @cons r q ws s u t bits_left first rest ih =>
    have hmem := first.mem_with_input b hip
    have hnext : u.xfer.ip = some (addrAdd s.params b (widthBytes (widthFor s.xfer.rem))) := by rw [first.ip, hip]; rfl
    have hreads : u.dinReads = s.dinReads + 1 := by rw [first.dinReads, hip]; rfl
    rw [polledBytes_step bits_left] at hroom ⊢
    rw [first.params, first.rem, dinDraw_congr first.dinScript, hreads, hmem] at ih
    refine .cons hm hb hroom (fun hmore => widthFor_eq_two_of_rest ?_) (ih hnext (inMem_wf _ _ _ hm) (addrAdd_lt _ _ _) (by omega))
    rw [polledBytes_eq] at hmore
    omega

/-- Settles O56: the words of the transfer fill the buffer. -/
theorem polledTransferFillsTheBuffer : Obligations.PolledTransferFillsTheBuffer := by
  intro s bgn nd o b ws hwf hmem hinit hclaimed hbits hlt hout hin hroom houtBuffer hinBuffer hlength hws
  have hrequest : PolledRequest s o true b ws :=
    ⟨hwf, hinit, hclaimed, hbits, hlt, hout, fun _ => hin, pathOf_of_in _ _ _, houtBuffer, hinBuffer, hlength, hws⟩
  obtain ⟨u, w, hexec, hruns, hend⟩ := hrequest.exec_ends bgn nd
  obtain ⟨hidle, hok⟩ := hruns.ended_ok
  have hrem := hrequest.firstTest_rem bgn nd
  have hfilled := hruns.fills (b := s.a2.toNat) (by simp) (by simpa using hmem) (by simpa using hin) (by simpa [hrem] using hroom)
  rw [firstTest_params, dinDraw_congr (firstTest_dinScript bgn nd o true s), firstTest_dinReads, hrem, Int.toNat_natCast,
    firstTest_mem] at hfilled
  obtain ⟨-, -, -, hkept⟩ := ended_eq (goTo .tail w)
  refine ⟨u, _, hexec, hend, hidle, hok, ?_⟩
  rw [hkept, goTo_mem]
  exact ⟨hfilled.inside, hfilled.outside⟩

end Sys2Proof.Machine
end

section
/-! SETUP, CLAIM and RELEASE (O31, O32, O33; spec/44_bus.md R221, R224, R227), and what runs before SETUP (O38; R222). -/

namespace Sys2Proof.Machine

/-- Settles O31: the check of the claim, then the three writes. -/
theorem setupResult : Obligations.SetupResult := by
  refine fun s => ⟨by decide, check_eq (by simp) ?_, fun hlayout => ?_⟩
  · simp [emit, beginCommand, endCommand, completedWith, statusCode, isViolation]
  · rw [readyMask, hlayout]
    decide

/-- Settles O32: the three checks in order, then the signal and the claim. -/
theorem claimResult : Obligations.ClaimResult := by
  refine fun s cs => ⟨?_, check_eq ?_ (check_eq ?_ (check_eq ?_ ?_))⟩
  · revert cs
    decide
  · simp
  · simp
  · simp
  · exact congrArg Host.Outcome.next (endCommand_ok_setResults ..)

/-- Settles O33: the three checks in order, then the signal and the free bus. -/
theorem releaseResult : Obligations.ReleaseResult := by
  refine fun s => ⟨by decide, check_eq ?_ (check_eq ?_ (check_eq ?_ ?_))⟩
  · simp
  · simp
  · simp
  · simp [emit, beginCommand, endCommand, completedWith, statusCode, isViolation]

/-- CLK_COMPUTE ends with OK, CONFIG_ERROR or RESERVED_COMMAND (R126). -/
theorem clkCompute_status {s t : State} (h : exec .clkCompute s = .next t) : t.r0 = 0 ∨ t.r0 = 1 ∨ t.r0 = 8 := by
  rw [clkComputeResult.2 s] at h
  cases h
  split
  · exact .inr (.inr rfl)
  · split
    · exact .inl rfl
    · exact .inr (.inl rfl)

/-- RESOLVE ends with OK or INVALID_CS (R157). -/
theorem resolve_status {s t : State} {cs : BitVec 3} {hasOut hasIn : Bool} (h : exec (.resolve cs hasOut hasIn) s = .next t) :
    t.r0 = 0 ∨ t.r0 = 2 := by
  obtain ⟨-, r2, r3, -, hexec⟩ := resolveResult s cs hasOut hasIn
  rw [hexec] at h
  cases h
  split
  · exact .inr rfl
  · split <;> exact .inl rfl

/-- Settles O38: with good operands INIT is the first check of a command that has that check, and the pure commands have other
statuses. -/
theorem nothingRunsBeforeSetup : Obligations.NothingRunsBeforeSetup := by
  refine fun s hinit => ⟨fun cs => ?_, ?_, fun htarget => ?_, fun h l b => ?_, fun b e o i hbits hout hin => ?_, ?_⟩
  · rw [(claimResult s cs).2, if_pos hinit]
  · rw [(releaseResult s).2, if_pos hinit]
  · rw [setSpeedResult.2 s, if_neg (not_not.2 htarget), if_pos hinit]
  · rw [(setModeResult s h l b).2, if_pos hinit]
  · rw [xferChecksThenBegins s b e o i, if_neg, if_pos hinit]
    rintro (hne | ⟨ho, hge⟩ | ⟨hi, hge⟩)
    · exact hne hbits
    · exact Nat.not_lt.2 hge (hout ho)
    · exact Nat.not_lt.2 hge (hin hi)
  · rintro i t (rfl | ⟨h, l, b, rfl⟩ | ⟨cs, o, n, rfl⟩) hexec
    · obtain hr0 | hr0 | hr0 := clkCompute_status hexec <;> simp [hr0]
    · rw [(modeComputeResult s h l b).2] at hexec
      cases hexec
      simp [completedWith]
    · obtain hr0 | hr0 := resolve_status hexec <;> simp [hr0]

end Sys2Proof.Machine
end

section
/-! The invariant at reset, and its part about the machine around the transfer engine, as the agents of a step keep it (O12;
spec/44_bus.md R228; spec/10_state.md R24; spec/60_exceptions.md R241, R243). -/

namespace Sys2Proof.Machine

/-- The claim as `CoreInv` has it: the bus is free and unselected, or claimed after SETUP for a valid index (R222, R228). -/
def BusOk (s : State) : Prop :=
  (s.claimed = false ∧ s.sel = false ∧ s.claimedCs = none) ∨
    (s.claimed = true ∧ s.init = true ∧ ∃ cs, s.claimedCs = some cs ∧ cs.toNat ∈ s.params.validCs)

theorem CoreInv.busOk {s : State} (h : CoreInv s) : BusOk s := by
  cases hclaimed : s.claimed with
  | false => exact .inl ⟨hclaimed, h.free_unselected hclaimed, h.free_no_cs hclaimed⟩
  | true => exact .inr ⟨hclaimed, h.claimed_init hclaimed, h.claimed_cs hclaimed⟩

/-- A command that keeps the configuration, host memory and the record of timeouts, and the bus as it should be, ends with `Inv`. -/
theorem CoreInv.inv_endCommand {s u : State} {st : Status} (h : CoreInv s) (hbus : BusOk u) (hparams : u.params = s.params := by rfl)
    (hmem : u.mem = s.mem := by rfl) (htotal : u.timeoutTotal = s.timeoutTotal := by rfl) (hdiag : u.diag = s.diag := by rfl) :
    Inv (endCommand st u) := by
  have hwf : u.params.wf = true := hparams ▸ h.params_wf
  have hmemWf : memWf u.mem = true := hmem ▸ h.mem_wf
  have haddr : ∀ a v, (a, v) ∈ u.mem → a < 2 ^ u.params.addrW := by
    rw [hparams, hmem]
    exact h.mem_addr
  have hlogged : u.timeoutTotal = BitVec.ofNat 32 u.diag.length := by rw [htotal, hdiag, h.timeouts_logged]
  obtain ⟨hfree, hsel, hcs⟩ | ⟨hclaimed, hinit, hvalid⟩ := hbus
  · exact endCommand_inv st hwf hmemWf haddr (fun _ => hsel) (fun _ => hcs) (by simp [hfree]) (by simp [hfree]) hlogged
  · exact endCommand_inv st hwf hmemWf haddr (by simp [hclaimed]) (by simp [hclaimed]) (fun _ => hvalid) (fun _ => hinit) hlogged

/-- The launch state is as after the end of a command with OK, so `Inv` needs only an accepted configuration. -/
theorem launch_inv {p : Params} (hwf : p.wf = true) : Inv (State.launch p) :=
  endCommand_inv .ok (s := State.launch p) hwf rfl (fun _ _ hin => nomatch hin) (fun _ => rfl) (fun _ => rfl)
    (fun hclaimed => nomatch hclaimed) (fun hclaimed => nomatch hclaimed) rfl

/-- Settles O12: `State.reset` is the launch under the common configuration, which is accepted. -/
theorem invariantHoldsAtReset : Obligations.InvariantHoldsAtReset :=
  ⟨fun _ hwf => launch_inv hwf, launch_inv (by decide)⟩

/-- Host memory is the same, or one byte at an `ADDR_W`-bit address has been written (spec/20_memory.md R60). -/
def AtMostOneByteWritten (s t : State) : Prop :=
  t.mem = s.mem ∨ ∃ a v, a < 2 ^ s.params.addrW ∧ t.mem = memPut s.mem a v

/-- `CoreInv` survives a change of one byte of memory, and of SEL under a claim. -/
theorem CoreInv.of_sameInternal {s t : State} (h : CoreInv s) (hsame : SameInternal s t) (hr0 : t.r0 = s.r0)
    (hsel : s.claimed = false → t.sel = s.sel) (hmem : AtMostOneByteWritten s t) : CoreInv t := by
  have ⟨hmemWf, hmemAddr⟩ : memWf t.mem = true ∧ ∀ a v, (a, v) ∈ t.mem → a < 2 ^ s.params.addrW := by
    obtain hmem | ⟨a, v, ha, hmem⟩ := hmem <;> rw [hmem]
    · exact ⟨h.mem_wf, h.mem_addr⟩
    · exact ⟨memPut_wf a v h.mem_wf, memPut_addr h.mem_addr ha⟩
  have hwritten : CoreInv { s with mem := t.mem, sel := t.sel } := { h with
    mem_wf := hmemWf
    mem_addr := hmemAddr
    free_unselected := fun hfree => (hsel hfree).trans (h.free_unselected hfree) }
  exact hwritten.congr hsame.params rfl hsame.claimed rfl hsame.claimedCs hsame.init hsame.timeoutTotal hsame.diag hr0
    hsame.violation

/-- What the host's move can do to the rest of what `Inv` is about: it writes at most one byte of host memory, and FSM stays IDLE
or becomes CHECK (spec/10_state.md R26). -/
structure HostMoved (s t : State) : Prop where
  r0 : t.r0 = s.r0
  sel : t.sel = s.sel
  xfer : t.xfer = s.xfer
  fsm : t.fsm = s.fsm ∨ t.fsm = .check
  mem : AtMostOneByteWritten s t

theorem hostMove_moved {m : HostMove} {rest : List HostMove} {s t : State}
    (h : hostMove m { s with host := rest } = .next t) : HostMoved s t := by
  cases m with
  | writeA k v =>
    cases h
    match k with
    | 0 | 1 | 2 => exact ⟨rfl, rfl, rfl, .inl rfl, .inl rfl⟩
  | writeCmd w =>
    cases h
    exact ⟨rfl, rfl, rfl, .inr rfl, .inl rfl⟩
  | writeMem a v =>
    simp only [hostMove] at h
    split at h <;> cases h
    exact ⟨rfl, rfl, rfl, .inl rfl, .inr ⟨a, v, ‹_›, rfl⟩⟩
  | writeReg r v =>
    simp only [hostMove] at h
    split at h <;> cases h
    cases r <;> exact ⟨rfl, rfl, rfl, .inl rfl, .inl rfl⟩

theorem hostStep_moved {s t : State} (h : hostStep s = .next t) : HostMoved s t := by
  unfold hostStep at h
  split at h
  · cases h
    exact ⟨rfl, rfl, rfl, .inl rfl, .inl rfl⟩
  · exact hostMove_moved h

/-- The host's move in IDLE keeps `Inv`. -/
theorem hostStep_inv {s t : State} (hinv : Inv s) (hidle : s.fsm = .idle) (h : hostStep s = .next t) : Inv t := by
  have hsame := hostStep_sameInternal h
  obtain ⟨hr0, hsel, hxfer, hfsm, hmem⟩ := hostStep_moved h
  refine ⟨hinv.core.of_sameInternal hsame hr0 (fun _ => hsel) hmem, hinv.xfer.congr_outside ?_ hsame.params hxfer⟩
  obtain hfsm | hfsm := hfsm <;> simp [hfsm, hidle]

/-- A refusal keeps `Inv`. -/
theorem Refused.inv {s t : State} (h : Refused s t) (hcore : CoreInv s) : Inv t := by
  obtain ⟨st, -, rfl⟩ := h
  exact hcore.inv_endCommand hcore.busOk

end Sys2Proof.Machine
end

section
/-! The part of the invariant about a running transfer, said of one state of it: what its working values satisfy everywhere, and what
that state needs beside (spec/43_transfer.md R171, R179 to R184; spec/20_memory.md R72). -/

namespace Sys2Proof.Machine

/-- The clauses of `XferInv` about the working values alone. -/
structure ValuesOk (p : Params) (x : Xfer) : Prop where
  out_cursor : ∀ a, x.op = some a → a < 2 ^ p.addrW
  in_cursor : ∀ a, x.ip = some a → a < 2 ^ p.addrW
  direct_buffers : ∀ base size, x.path = .direct base size → x.op.isSome = true ∧ x.ip = none
  status : x.status = .ok ∨ (p.timeoutPolicy = .abort ∧ x.status = .wordTimeout)
  stop : x.stop = true ↔ x.status = .wordTimeout

/-- What `XferInv` asks of the machine in this state of a transfer. -/
def PlaceOk (s : State) : XferState → Prop
  | .selW | .dselW => s.xfer.t = s.ctrl
  | .pLenW => s.xfer.path = .polled ∧ s.xfer.t = s.cfg
  | .pPoll => s.xfer.path = .polled ∧ s.xfer.n < s.params.pollBound
  | .pOutB0 | .pOutB1 => s.xfer.path = .polled ∧ s.xfer.op.isSome = true
  | .pInR | .pInB0 | .pInB1 => s.xfer.path = .polled ∧ s.xfer.ip.isSome = true
  | .pTest | .pLenR | .pClrR | .pClrW | .pOutW | .pAdv | .pTmo => s.xfer.path = .polled
  | .dTest | .dRd0 | .dRd1 | .dRd2 | .dRd3 | .dWW | .dBrd | .dBw => s.xfer.path ≠ .polled
  | .selR | .body | .tail | .dselR | .done => True

theorem PlaceOk.polled {s : State} {st : XferState} (h : PlaceOk s st) (hst : isPolledState st = true) :
    s.xfer.path = .polled := by
  cases st with
  | pLenW | pPoll | pOutB0 | pOutB1 | pInR | pInB0 | pInB1 => exact h.1
  | pTest | pLenR | pClrR | pClrW | pOutW | pAdv | pTmo => exact h
  | _ => cases hst

theorem PlaceOk.direct {s : State} {st : XferState} (h : PlaceOk s st) (hst : isDirectState st = true) :
    s.xfer.path ≠ .polled := by
  cases st with
  | dTest | dRd0 | dRd1 | dRd2 | dRd3 | dWW | dBrd | dBw => exact h
  | _ => cases hst

theorem XferInv.valuesOk {s : State} (h : XferInv s) : ValuesOk s.params s.xfer :=
  ⟨h.out_cursor, h.in_cursor, h.direct_buffers, h.xfer_status, h.xfer_stop⟩

theorem XferInv.placeOk {s : State} {st : XferState} (h : XferInv s) (hfsm : s.fsm = .xfer st) : PlaceOk s st := by
  cases st with
  | selW | dselW => exact h.select_half (by simp [hfsm])
  | pLenW => exact ⟨h.polled_path _ hfsm rfl, h.length_half hfsm⟩
  | pPoll => exact ⟨h.polled_path _ hfsm rfl, h.poll_bounded hfsm⟩
  | pOutB0 | pOutB1 => exact ⟨h.polled_path _ hfsm rfl, h.out_states (by simp [hfsm])⟩
  | pInR | pInB0 | pInB1 => exact ⟨h.polled_path _ hfsm rfl, h.in_states (by simp [hfsm])⟩
  | pTest | pLenR | pClrR | pClrW | pOutW | pAdv | pTmo => exact h.polled_path _ hfsm rfl
  | dTest | dRd0 | dRd1 | dRd2 | dRd3 | dWW | dBrd | dBw => exact h.direct_path _ hfsm rfl
  | selR | body | tail | dselR | done => trivial

/-- In a state of a transfer `XferInv` is the claim, the values and the place. -/
theorem xferInv_of_placeOk {s : State} {st : XferState} (hfsm : s.fsm = .xfer st) (hclaimed : s.claimed = true)
    (hvalues : ValuesOk s.params s.xfer) (hplace : PlaceOk s st) : XferInv s := by
  have hat {st'} (h : s.fsm = .xfer st') : PlaceOk s st' := by
    cases hfsm.symm.trans h
    exact hplace
  exact {
    xfer_claimed := fun _ _ => hclaimed
    select_half := fun h => h.elim hat hat
    length_half := fun h => (hat h).2
    poll_bounded := fun h => (hat h).2
    out_cursor := hvalues.out_cursor
    in_cursor := hvalues.in_cursor
    direct_buffers := hvalues.direct_buffers
    polled_path := fun _ h hpolled => (hat h).polled hpolled
    direct_path := fun _ h hdirect => (hat h).direct hdirect
    out_states := fun h => h.elim (fun h => (hat h).2) (fun h => (hat h).2)
    in_states := fun h => h.elim (fun h => (hat h).2) (fun h => h.elim (fun h => (hat h).2) (fun h => (hat h).2))
    xfer_status := hvalues.status
    xfer_stop := hvalues.stop }

end Sys2Proof.Machine
end

section
/-! A state of a transfer keeps the part of the invariant about the transfer: it makes the values and the place of the next one. -/

namespace Sys2Proof.Machine

/-- The clauses depend on the cursors, the path, the status and the stop flag alone. -/
theorem ValuesOk.congr {p : Params} {x y : Xfer} (h : ValuesOk p x) (hop : y.op = x.op := by rfl) (hip : y.ip = x.ip := by rfl)
    (hpath : y.path = x.path := by rfl) (hstatus : y.status = x.status := by rfl) (hstop : y.stop = x.stop := by rfl) :
    ValuesOk p y := by
  obtain ⟨_, _, _, _, _⟩ := h
  constructor <;> simp only [hop, hip, hpath, hstatus, hstop] <;> assumption

/-- A completed word moves the cursors modulo `2^ADDR_W` (R179, R182). -/
theorem ValuesOk.advanced {p : Params} {x : Xfer} (h : ValuesOk p x) : ValuesOk p (advanced p x) where
  out_cursor := advanced_cursor_lt (buf := x.op) (k := widthBytes x.w)
  in_cursor := advanced_cursor_lt (buf := x.ip) (k := widthBytes x.w)
  direct_buffers base size hpath := by
    obtain ⟨hop, hip⟩ := h.direct_buffers base size hpath
    simp [Machine.advanced, hop, hip]
  status := h.status
  stop := h.stop

/-- A window write moves the out cursor modulo `2^ADDR_W` (R190). -/
theorem ValuesOk.streamed {p : Params} {x : Xfer} (h : ValuesOk p x) (k : Nat) : ValuesOk p (streamed p k x) where
  out_cursor := advanced_cursor_lt (buf := x.op) (k := k)
  in_cursor := h.in_cursor
  direct_buffers base size hpath := by
    obtain ⟨hop, hip⟩ := h.direct_buffers base size hpath
    simp [Machine.streamed, hop, hip]
  status := h.status
  stop := h.stop

/-- A timeout changes the status and the stop flag together, and only under ABORT (R183, R184). -/
theorem ValuesOk.timedOut {p : Params} {x : Xfer} (h : ValuesOk p x) : ValuesOk p (timedOut p x) := by
  unfold Machine.timedOut
  split
  · exact h.congr
  · exact ⟨h.out_cursor, h.in_cursor, h.direct_buffers, .inr ⟨‹_›, rfl⟩, by simp⟩

theorem timedOut_path (p : Params) (x : Xfer) : (timedOut p x).path = x.path := by
  unfold timedOut
  split <;> rfl

/-- The request that an XFER latches: its buffers have passed the operand check, and a direct path has an output only (R156, R173). -/
theorem startXfer_valuesOk {s : State} {endSel hasOut hasIn : Bool} (h : xferOperandsOk hasOut hasIn s = true) :
    ValuesOk s.params (startXfer endSel hasOut hasIn s) := by
  obtain ⟨-, hout, hin⟩ := (xferOperandsOk_iff hasOut hasIn s).1 h
  have hbuffer {present : Bool} {v : DWord} (hv : present = true → v.toNat < 2 ^ s.params.addrW) (a : Nat)
      (ha : bufferOf present v = some a) : a < 2 ^ s.params.addrW := by
    cases present with
    | false => cases ha
    | true =>
      cases ha
      exact hv rfl
  refine ⟨hbuffer hout, hbuffer hin, fun base size hpath => ?_, .inl rfl, by simp [startXfer, Xfer.idle]⟩
  obtain ⟨hdirect, -⟩ := pathIsDirectOnlyForOutputWithWindow s.params (claimedIndex s) hasOut hasIn
  obtain ⟨rfl, rfl, -⟩ := (hdirect base size).1 hpath
  exact ⟨rfl, rfl⟩

namespace AtMostOneAccess

variable {s u : State} {nxt : XferState} {x : Xfer} (h : AtMostOneAccess s u)
include h

/-- One access writes no result register. -/
theorem keeps_r0 : (goWith nxt x u).r0 = s.r0 := by
  cases h with
  | regRead r | regWrite r v => cases r <;> rfl
  | none | selWrite | memRead | memWrite | winWrite => rfl

/-- After at most one access the next state of the transfer has `XferInv` if its values and its place have their parts. -/
theorem xferInv (hclaimed : s.claimed = true) (hvalues : ValuesOk s.params x) (hplace : PlaceOk (goWith nxt x u) nxt) :
    XferInv (goWith nxt x u) := by
  have hsame := h.sameInternal (nxt := nxt) (x := x) rfl
  refine xferInv_of_placeOk rfl (hsame.claimed.trans hclaimed) ?_ hplace
  rw [hsame.params]
  exact hvalues

end AtMostOneAccess

/-- A state of a transfer other than P_TMO and DONE keeps `XferInv`. -/
theorem xferStep_xferInv {st : XferState} {s t : State} (hwf : s.params.wf = true) (hinv : XferInv s) (hfsm : s.fsm = .xfer st)
    (htmo : st ≠ .pTmo) (hdone : st ≠ .done) (h : xferStep st s = .next t) : XferInv t := by
  have hclaimed := hinv.xfer_claimed _ hfsm
  have hvalues := hinv.valuesOk
  have hplace := hinv.placeOk hfsm
  cases st with
  | selR | dselR =>
    cases h
    exact AtMostOneAccess.xferInv (.regRead .ctrl) hclaimed hvalues.congr rfl
  | selW =>
    cases h
    exact AtMostOneAccess.xferInv (.selWrite _ true) hclaimed hvalues trivial
  | dselW =>
    cases h
    exact AtMostOneAccess.xferInv (.selWrite _ false) hclaimed hvalues trivial
  | body =>
    cases h
    unfold stepBody
    split <;> rename_i hpath
    · exact AtMostOneAccess.none.xferInv hclaimed hvalues hpath
    · exact AtMostOneAccess.none.xferInv hclaimed hvalues (by simp [PlaceOk, hpath])
  | pTest =>
    cases h
    unfold stepPTest
    split
    · exact AtMostOneAccess.none.xferInv hclaimed hvalues hplace
    · exact AtMostOneAccess.none.xferInv hclaimed hvalues trivial
  | pLenR =>
    cases h
    exact AtMostOneAccess.xferInv (.regRead .cfg) hclaimed hvalues.congr ⟨hplace, rfl⟩
  | pLenW =>
    cases h
    exact AtMostOneAccess.xferInv (.regWrite .cfg _) hclaimed hvalues hplace.1
  | pClrR =>
    cases h
    exact AtMostOneAccess.xferInv (.regRead .cause) hclaimed hvalues.congr hplace
  | pClrW =>
    cases h
    refine AtMostOneAccess.xferInv (.regWrite .cause _) hclaimed hvalues ?_
    split
    · exact ⟨hplace, ‹_›⟩
    · exact hplace
  | pOutB0 =>
    obtain ⟨hpath, hout⟩ := hplace
    obtain ⟨a, ha⟩ := Option.isSome_iff_exists.1 hout
    simp only [xferStep, stepPOutB0, ha] at h
    obtain ⟨-, h⟩ := memLoad_next h
    cases h
    refine AtMostOneAccess.xferInv (.memRead _ _) hclaimed hvalues.congr ?_
    split
    · exact hpath
    · exact ⟨hpath, hout⟩
  | pOutB1 =>
    obtain ⟨hpath, hout⟩ := hplace
    obtain ⟨a, ha⟩ := Option.isSome_iff_exists.1 hout
    simp only [xferStep, stepPOutB1, ha] at h
    obtain ⟨-, h⟩ := memLoad_next h
    cases h
    exact AtMostOneAccess.xferInv (.memRead _ _) hclaimed hvalues.congr hpath
  | pOutW =>
    cases h
    exact AtMostOneAccess.xferInv (.regWrite .dout _) hclaimed hvalues.congr ⟨hplace, pollBound_pos hwf⟩
  | pPoll =>
    cases h
    refine AtMostOneAccess.xferInv (.regRead .cause) hclaimed hvalues.congr ?_
    split
    · split
      · exact ⟨hplace.1, ‹_›⟩
      · exact hplace.1
    · split
      · exact ⟨hplace.1, ‹_›⟩
      · exact hplace.1
  | pInR =>
    cases h
    exact AtMostOneAccess.xferInv (.regRead .din) hclaimed hvalues.congr hplace
  | pInB0 =>
    obtain ⟨hpath, hin⟩ := hplace
    obtain ⟨b, hb⟩ := Option.isSome_iff_exists.1 hin
    simp only [xferStep, stepPInB0, hb] at h
    obtain ⟨-, h⟩ := memStore_next h
    cases h
    refine AtMostOneAccess.xferInv (.memWrite _ _) hclaimed hvalues ?_
    split
    · exact hpath
    · exact ⟨hpath, hin⟩
  | pInB1 =>
    obtain ⟨hpath, hin⟩ := hplace
    obtain ⟨b, hb⟩ := Option.isSome_iff_exists.1 hin
    simp only [xferStep, stepPInB1, hb] at h
    obtain ⟨-, h⟩ := memStore_next h
    cases h
    exact AtMostOneAccess.xferInv (.memWrite _ _) hclaimed hvalues hpath
  | pAdv =>
    cases h
    exact AtMostOneAccess.none.xferInv hclaimed hvalues.advanced hplace
  | dTest =>
    cases h
    unfold stepDTest
    split
    · exact AtMostOneAccess.none.xferInv hclaimed hvalues hplace
    · split
      · exact AtMostOneAccess.none.xferInv hclaimed hvalues hplace
      · exact AtMostOneAccess.none.xferInv hclaimed hvalues trivial
  | dRd0 | dRd1 | dRd2 | dRd3 | dBrd =>
    simp only [xferStep, stepDRd, stepDBrd] at h
    obtain ⟨-, h⟩ := memLoad_next h
    cases h
    exact AtMostOneAccess.xferInv (.memRead _ _) hclaimed hvalues.congr hplace
  | dWW | dBw =>
    cases h
    exact AtMostOneAccess.xferInv (.winWrite _ _ _) hclaimed (hvalues.streamed _) hplace
  | tail =>
    cases h
    unfold stepTail
    split <;> exact AtMostOneAccess.none.xferInv hclaimed hvalues trivial
  | pTmo => exact absurd rfl htmo
  | done => exact absurd rfl hdone

end Sys2Proof.Machine
end

section
/-! Every step keeps the invariant (O13). -/

namespace Sys2Proof.Machine

/-- A state of a transfer writes at most one byte of host memory, and an admitted address has `ADDR_W` bits (R61). -/
theorem xferStep_memory {st : XferState} {s t : State} (hwf : s.params.wf = true) (h : xferStep st s = .next t) :
    AtMostOneByteWritten s t := by
  cases st with
  | pInB0 | pInB1 =>
    simp only [xferStep, stepPInB0, stepPInB1] at h
    split at h
    · cases h
      exact .inl rfl
    · obtain ⟨hadmitted, h⟩ := memStore_next h
      cases h
      exact .inr ⟨_, _, admits_lt hwf hadmitted, rfl⟩
  | _ =>
    obtain ⟨-, -, -, hmem⟩ := xferStep_keeps h
    exact .inl (hmem (by simp) (by simp))

/-- A state of a transfer other than P_TMO and DONE keeps `Inv`: SEL changes under the claim alone. -/
theorem xferStep_inv {st : XferState} {s t : State} (hinv : Inv s) (hfsm : s.fsm = .xfer st) (htmo : st ≠ .pTmo)
    (hdone : st ≠ .done) (h : xferStep st s = .next t) : Inv t := by
  have hwf := hinv.core.params_wf
  have hclaimed := hinv.xfer.xfer_claimed _ hfsm
  refine ⟨?_, xferStep_xferInv hwf hinv.xfer hfsm htmo hdone h⟩
  have hmem := xferStep_memory hwf h
  obtain ⟨nxt, x, u, haccess, rfl⟩ := xferStep_access htmo hdone h
  exact hinv.core.of_sameInternal (haccess.sameInternal rfl) haccess.keeps_r0 (fun hfree => by simp [hclaimed] at hfree) hmem

/-- P_TMO keeps `Inv`: the event and the count are recorded together (R183; spec/10_state.md R24). -/
theorem stepPTmo_inv {s : State} (hinv : Inv s) (hfsm : s.fsm = .xfer .pTmo) : Inv (stepPTmo s) := by
  obtain ⟨hcore, hxfer⟩ := hinv
  have hpath : s.xfer.path = .polled := hxfer.placeOk hfsm
  refine ⟨?_, xferInv_of_placeOk rfl (hxfer.xfer_claimed _ hfsm) hxfer.valuesOk.timedOut ((timedOut_path _ _).trans hpath)⟩
  exact { hcore with
    timeouts_logged := by simp [stepPTmo, logTimeout, hcore.timeouts_logged, BitVec.ofNat_add] }

/-- The effect of a command keeps `Inv`: SETUP, CLAIM and RELEASE leave the bus free or claimed for a valid index (R221, R224, R227),
XFER begins under the claim, and the others write nothing that `CoreInv` is about. -/
theorem CommandEffect.inv {i : Instr} {s t : State} (h : CommandEffect s i t) (hcore : CoreInv s) : Inv t := by
  cases h with
  | setup free =>
    exact hcore.inv_endCommand (.inl (by simp [free, hcore.free_no_cs free])) (by simp) (by simp) (by simp) (by simp)
  | claim init valid free => exact hcore.inv_endCommand (.inr ⟨rfl, init, _, rfl, valid⟩)
  | release init claimed unselected => exact hcore.inv_endCommand (.inl ⟨rfl, unselected, rfl⟩)
  | clkCompute | modeCompute => exact hcore.inv_endCommand hcore.busOk
  | setSpeed | setMode =>
    rw [rmw_cfg]
    exact hcore.inv_endCommand hcore.busOk
  | resolve =>
    rw [pathResults_eq]
    exact hcore.inv_endCommand hcore.busOk
  | @xfer beginSel endSel hasOut hasIn operands init claimed =>
    refine ⟨hcore.congr rfl rfl rfl rfl rfl rfl rfl rfl rfl rfl, xferInv_of_placeOk rfl claimed (startXfer_valuesOk operands) ?_⟩
    cases beginSel <;> trivial

/-- Settles O13: each agent of a step keeps the invariant. -/
theorem stepKeepsInvariant : Obligations.StepKeepsInvariant := by
  intro s t hinv h
  cases step_effect h with
  | host idle move => exact hostStep_inv hinv idle move
  | refused _ refusal => exact refusal.inv hinv.core
  | command _ _ effect => exact effect.inv hinv.core
  | transfer running untimed unfinished _ _ =>
    rw [step_xfer hinv.core.params_wf running] at h
    exact xferStep_inv hinv running untimed unfinished h
  | timeout running result => exact result ▸ stepPTmo_inv hinv running
  | done _ result =>
    rw [result, stepDone]
    exact hinv.core.inv_endCommand hinv.core.busOk

end Sys2Proof.Machine
end

section
/-! What a refused command leaves alone (O36; spec/60_exceptions.md R244), and what is refused while select is held (O39; R247). -/

namespace Sys2Proof.Machine

/-- Settles O36: a command is refused with no other effect, or has its effect and can only end with OK. -/
theorem refusalsMakeNoAccess : Obligations.RefusalsMakeNoAccess := by
  intro i s t hexec hend hne
  obtain ⟨st, -, rfl⟩ | heffect := exec_cases hexec
  · have hviolation : isViolation st = decide (5 ≤ (statusCode st).toNat) := by
      rw [Bool.eq_iff_iff, isViolation_iff, decide_eq_true_iff]
    rw [endCommand_beginCommand, hviolation]
    rfl
  · exact absurd (heffect.ends_ok hend) hne

/-- On a claimed bus after SETUP an XFER that ends at its checks ends with RESERVED_COMMAND (R173). -/
theorem xfer_status_of_claimed {s t : State} {beginSel endSel hasOut hasIn : Bool} (hinit : s.init = true)
    (hclaimed : s.claimed = true) (h : exec (.xfer beginSel endSel hasOut hasIn) s = .next t) (hend : t.fsm = .idle) :
    t.r0 = 8 := by
  rw [xferChecksThenBegins, if_neg (c := s.init = false) (by simp [hinit]),
    if_neg (c := s.claimed = false) (by simp [hclaimed])] at h
  cases h
  split at hend
  · rw [if_pos ‹_›]
    rfl
  · simp at hend

/-- Settles O39: past INIT and the claim SEL is the next check of the three commands that have it, the claim itself refuses CLAIM
and SETUP, and XFER and the pure commands have other statuses. -/
theorem selectHeldRefusals : Obligations.SelectHeldRefusals := by
  intro s hinit hclaimed hsel
  have hinit' : ¬ s.init = false := by simp [hinit]
  have hclaimed' : ¬ s.claimed = false := by simp [hclaimed]
  refine ⟨fun htarget => ?_, fun h l b => ?_, ?_, fun cs hvalid => ?_, ?_, ?_⟩
  · rw [setSpeedResult.2 s, if_neg (not_not.2 htarget), if_neg hinit', if_neg hclaimed', if_pos hsel]
  · rw [(setModeResult s h l b).2, if_neg hinit', if_neg hclaimed', if_pos hsel]
  · rw [(releaseResult s).2, if_neg hinit', if_neg hclaimed', if_pos hsel]
  · rw [(claimResult s cs).2, if_neg hinit', if_neg (not_not.2 hvalid), if_pos hclaimed]
  · rw [(setupResult s).2.1, if_pos hclaimed]
  · rintro i t (rfl | ⟨h, l, b, rfl⟩ | ⟨cs, o, n, rfl⟩ | ⟨b, e, o, n, rfl⟩) hexec hend
    · obtain hr0 | hr0 | hr0 := clkCompute_status hexec <;> simp [hr0]
    · rw [(modeComputeResult s h l b).2] at hexec
      cases hexec
      simp [completedWith]
    · obtain hr0 | hr0 := resolve_status hexec <;> simp [hr0]
    · simp [xfer_status_of_claimed hinit hclaimed hexec hend]

end Sys2Proof.Machine
end

section
/-! No agent writes the launch parameters (O10; spec/70_reset_and_hazards.md R272). -/

namespace Sys2Proof.Machine

/-- No command writes the launch parameters. -/
theorem CommandEffect.params {s t : State} {i : Instr} (h : CommandEffect s i t) : t.params = s.params := by
  cases h with
  | resolve => rw [pathResults_eq]; rfl
  | _ => simp [clockResults, modeResults, rmw_cfg]

/-- Settles O10: each agent that can act in a step keeps the launch parameters. -/
theorem configurationNeverChanges : Obligations.ConfigurationNeverChanges := by
  intro s t h
  cases step_effect h with
  | host _ move => exact (hostStep_sameInternal move).params
  | refused _ refusal =>
    obtain ⟨st, -, rfl⟩ := refusal
    rfl
  | command _ _ effect => exact effect.params
  | transfer _ _ _ access result => exact (access.sameInternal result).params
  | timeout _ result | done _ result =>
    subst result
    rfl

end Sys2Proof.Machine
end

section
/-! What a word that completes on its first attempt costs in accesses, part by part (O53; spec/70_reset_and_hazards.md R286). -/

namespace Sys2Proof.Machine

/-- Each byte of the output is one access. -/
theorem length_outReads (p : Params) (m : List Host.Cell) (op : Option Nat) (w : Width) :
    (outReads p m op w).length = if op.isSome then widthBytes w else 0 := by
  cases op <;> cases w <;> rfl

/-- The launch: a read and a write of CFG, a read and a write of CAUSE, the output bytes and the write of DOUT. -/
theorem length_trace_sent_cleared (s : State) : (sent (cleared s)).trace.length =
    s.trace.length + 2 + 2 + (if s.xfer.op.isSome then widthBytes (widthFor s.xfer.rem) else 0) + 1 := by
  simp [sent, cleared, length_outReads]
  omega

/-- Each poll is one access. -/
theorem length_trace_polled (q : Nat) (s : State) : (polled q s).trace.length = s.trace.length + (q + 1) := by
  simp [polled]

/-- The input: the read of DIN and the input bytes. -/
theorem length_trace_inputTaken (s : State) : (inputTaken s).trace.length =
    s.trace.length + (if s.xfer.ip.isSome then 1 + widthBytes s.xfer.w else 0) := by
  cases hip : s.xfer.ip with
  | none => simp [inputTaken, hip]
  | some b => simp [inputTaken, hip, received, length_inWrites, Nat.add_comm]

/-- The whole word: its launch, its `q + 1` polls and its input. -/
theorem length_trace_firstAttempt (q : Nat) (s : State) : (firstAttempt q s).trace.length =
    s.trace.length + 2 + 2 + (if s.xfer.op.isSome then widthBytes (widthFor s.xfer.rem) else 0) + 1 + (q + 1) +
      (if s.xfer.ip.isSome then 1 + widthBytes (widthFor s.xfer.rem) else 0) := by
  rw [firstAttempt, stepPAdv, goWith_trace, length_trace_inputTaken, length_trace_polled, length_trace_sent_cleared]
  rfl

/-- Settles O53: the word completes on its first attempt, whose accesses are counted above. -/
theorem completedWordCost : Obligations.CompletedWordCost := by
  intro s w q hwf hfsm hrem hstop hw hout hin houtBuffer hinBuffer hdone
  obtain rfl : w = widthFor s.xfer.rem := hw
  have hready : WordReady s := ⟨hwf, hfsm, hrem, hstop, hout, houtBuffer⟩
  have hrun := wordRun_firstAttempt q s
  exact ⟨firstAttempt q s, hready.reaches_firstAttempt hdone hin hinBuffer, hrun.at_test, hrun.words, hrun.rem,
    length_trace_firstAttempt q s⟩

end Sys2Proof.Machine
end

section
/-! Under ABORT every accepted polled XFER ends (O60; spec/70_reset_and_hazards.md R284): each word that is tried completes or
times out, a word that completes leaves fewer words to try, and the first timeout stops the transfer. -/

namespace Sys2Proof.Machine

/-- An attempt at a word completes at the first of its `POLL_BOUND` polls that shows WC = 1, or else fails. -/
theorem attempt_completes_or_fails (s : State) (k : Nat) : (∃ q, attemptCompletes s k q) ∨ attemptFails s k := by
  by_cases hhit : ∃ j, j < s.params.pollBound ∧ wcSet s.params (causeDraw s (k + 1 + j)) = true
  · obtain ⟨hlt, hset⟩ := Nat.find_spec hhit
    refine .inl ⟨Nat.find hhit, hlt, fun j hj => ?_, hset⟩
    have hearlier := Nat.find_min hhit hj
    simp only [not_and, Bool.not_eq_true] at hearlier
    exact hearlier (hj.trans hlt)
  · simp only [not_exists, not_and, Bool.not_eq_true] at hhit
    exact .inr hhit

/-- The working values after a word timeout under ABORT (R183, R184): the loop is stopped. -/
theorem timedOutWord_xfer_of_abort {s : State} (hpolicy : s.params.timeoutPolicy = .abort) :
    (timedOutWord s).xfer = { s.xfer with
      w := widthFor s.xfer.rem, t := causeDraw s s.causeReads, n := s.params.pollBound - 1 + 1, tmo := s.xfer.tmo + 1
      word := outWord s.params s.mem s.xfer.op (widthFor s.xfer.rem), status := .wordTimeout, stop := true } := by
  simp [timedOutWord, stepPTmo, timedOut, hpolicy, polled, sent, cleared]

/-- From one P_TEST to the P_TEST that ends the loop, `n` words have been tried; all completed but the last, which may have timed
out. -/
structure WordsTried (n : Nat) (s t : State) : Prop where
  params : t.params = s.params
  at_test : t.fsm = .xfer .pTest
  loop_over : t.xfer.rem ≤ 4 ∨ t.xfer.stop = true
  sel : t.sel = s.sel
  violation : t.violation = s.violation
  endSel : t.xfer.endSel = s.xfer.endSel
  path : t.xfer.path = s.xfer.path
  outcome : (t.xfer.status = s.xfer.status ∧ t.xfer.tmo = s.xfer.tmo) ∨
    (t.xfer.status = .wordTimeout ∧ t.xfer.tmo = s.xfer.tmo + 1)
  tried : t.xfer.words + t.xfer.tmo = s.xfer.words + s.xfer.tmo + n
  causeReads : t.causeReads ≤ s.causeReads + n * (s.params.pollBound + 1)

/-- With at most 4 bits left no word is tried. -/
theorem WordsTried.none {s : State} (htest : s.fsm = .xfer .pTest) (hrem : s.xfer.rem ≤ 4) : WordsTried 0 s s := by
  constructor <;> simp [htest, hrem]

/-- A word that times out under ABORT is the last one tried. -/
theorem wordsTried_timedOutWord {s : State} (hwf : s.params.wf = true) (hpolicy : s.params.timeoutPolicy = .abort) :
    WordsTried 1 s (timedOutWord s) := by
  obtain ⟨hsel, hviolation, -⟩ := timedOutWord_keeps s
  constructor <;> simp only [timedOutWord_params, timedOutWord_fsm, timedOutWord_xfer_of_abort hpolicy, hsel, hviolation,
    timedOutWord_causeReads hwf]
  case loop_over => exact .inr trivial
  case outcome => exact .inr ⟨trivial, trivial⟩
  case tried => omega
  case causeReads => omega

/-- A word that completes, and then the others. -/
theorem WordRun.wordsTried {n q : Nat} {s u t : State} (first : WordRun s 0 q u) (hq : q < s.params.pollBound)
    (rest : WordsTried n u t) : WordsTried (n + 1) s t where
  params := rest.params.trans first.params
  at_test := rest.at_test
  loop_over := rest.loop_over
  sel := rest.sel.trans first.sel
  violation := rest.violation.trans first.violation
  endSel := rest.endSel.trans first.endSel
  path := rest.path.trans first.path
  outcome := by
    have houtcome := rest.outcome
    rwa [first.status, first.tmo] at houtcome
  tried := by
    have htried := rest.tried
    rw [first.words, first.tmo] at htried
    omega
  causeReads := by
    have hreads := rest.causeReads
    rw [first.causeReads, first.params] at hreads
    rw [Nat.succ_mul]
    omega

/-- Under ABORT the loop ends after at most as many tries as it has words, whatever the peripheral answers. -/
theorem PolledReady.reaches_wordsTried {s : State} (h : PolledReady s) (hpolicy : s.params.timeoutPolicy = .abort) :
    ∃ n t, n ≤ polledWords s.xfer.rem.toNat ∧ Reaches s t ∧ WordsTried n s t := by
  induction hleft : polledWords s.xfer.rem.toNat generalizing s with
  | zero => exact ⟨0, s, le_rfl, .refl s, .none h.at_test (polledWords_eq_zero_iff.1 hleft)⟩
  | succ k ih =>
    have hrem : 4 < s.xfer.rem := by
      by_contra hrem
      rw [polledWords_eq_zero_iff.2 (by omega)] at hleft
      cases hleft
    have hbytes := polledBytes_step hrem
    have hready : WordReady s :=
      ⟨h.wf, h.at_test, hrem, h.running, h.out_cursor, bufferAdmitted_of_le h.out_admitted (by omega)⟩
    obtain ⟨q, hdone⟩ | hfail := attempt_completes_or_fails s s.causeReads
    · have hrun := wordRun_firstAttempt q s
      have hfewer : polledWords (firstAttempt q s).xfer.rem.toNat = k := by
        rw [hrun.rem]
        rw [polledWords_step hrem] at hleft
        exact Nat.succ.inj hleft
      obtain ⟨n, t, hn, hreach, htried⟩ := ih (h.after_word hrem hrun) (hrun.params ▸ hpolicy) hfewer
      exact ⟨n + 1, t, Nat.succ_le_succ hn,
        (hready.reaches_firstAttempt hdone h.in_cursor (bufferAdmitted_of_le h.in_admitted (by omega))).trans hreach,
        hrun.wordsTried hdone.1 htried⟩
    · exact ⟨1, _, by omega, hready.reaches_timedOutWord hfail, wordsTried_timedOutWord h.wf hpolicy⟩

/-- P_TEST ends the transfer with at most 4 bits left, or once the loop is stopped (R175). -/
theorem reaches_ended_of_loop_over {s : State} (hwf : s.params.wf = true) (hfsm : s.fsm = .xfer .pTest)
    (hover : s.xfer.rem ≤ 4 ∨ s.xfer.stop = true) : Reaches s (ended (goTo .tail s)) := by
  have htest : xferStep .pTest s = .next (goTo .tail s) := by
    obtain hrem | hstop := hover
    · simp [xferStep, stepPTest, hrem]
    · simp [xferStep, stepPTest, hstop]
  exact .head hwf hfsm htest (reaches_ended hwf rfl)

/-- An accepted XFER on the polled path comes to its first P_TEST. -/
theorem exec_xfer_reaches_firstTest {s : State} {o i : Bool} (bgn nd : Bool) (hwf : s.params.wf = true)
    (hoperands : xferOperandsOk o i s = true) (hinit : s.init = true) (hclaimed : s.claimed = true)
    (hpath : pathOf s.params (claimedIndex s) o i = .polled) :
    ∃ u, exec (.xfer bgn nd o i) s = .next u ∧ Reaches u (firstTest bgn nd o i s) := by
  obtain ⟨u, hexec, hbegin, hbody⟩ := exec_xfer_reaches bgn nd o i hwf hoperands hinit hclaimed
  have hpolled : (begun bgn nd o i s).xfer.path = .polled := by
    rw [begun_eq]
    exact hpath
  have hstep : xferStep .body (begun bgn nd o i s) = .next (firstTest bgn nd o i s) := by
    simp [xferStep, stepBody, hpolled, firstTest]
  obtain ⟨hparams, -⟩ := begun_inputs bgn nd o i s
  exact ⟨u, hexec, hbegin.trans (.head (hparams ▸ hwf) hbody hstep (.refl _))⟩

/-- At the first P_TEST the whole transfer remains. -/
theorem firstTest_rem {s : State} (bgn nd o i : Bool) (hlt : s.a0.toNat < 2 ^ 32) :
    (firstTest bgn nd o i s).xfer.rem = s.a0.toNat := by
  rw [firstTest_eq, ← numberVal_of_lt hlt]
  rfl

/-- At the first P_TEST of an accepted XFER the buffers are those that its operands name. -/
theorem polledReady_firstTest {s : State} {o i : Bool} (bgn nd : Bool) (hwf : s.params.wf = true) (hlt : s.a0.toNat < 2 ^ 32)
    (hout : o = true → s.a1.toNat < 2 ^ s.params.addrW) (hin : i = true → s.a2.toNat < 2 ^ s.params.addrW)
    (houtBuffer : bufferAdmitted s.params (if o then some s.a1.toNat else none) (polledBytes s.a0.toNat))
    (hinBuffer : bufferAdmitted s.params (if i then some s.a2.toNat else none) (polledBytes s.a0.toNat)) :
    PolledReady (firstTest bgn nd o i s) := by
  constructor
  case wf => rw [firstTest_params, hwf]
  case at_test => rfl
  case running =>
    rw [firstTest_eq]
    rfl
  case out_cursor => simpa using hout
  case in_cursor => simpa using hin
  case out_admitted => simpa [firstTest_rem bgn nd o i hlt] using houtBuffer
  case in_admitted => simpa [firstTest_rem bgn nd o i hlt] using hinBuffer

/-- Settles O60: the transfer begins, tries its words up to the first timeout, and ends with what they count. -/
theorem abortedTransfersAlwaysEnd : Obligations.AbortedTransfersAlwaysEnd := by
  intro s bgn nd o i b hwf hpolicy hinit hclaimed hbits hlt hout hin hpath houtBuffer hinBuffer
  subst hbits
  obtain ⟨u, hexec, hbegin⟩ :=
    exec_xfer_reaches_firstTest bgn nd hwf (xferOperandsOk_of_lt hlt hout hin) hinit hclaimed hpath
  have hready := polledReady_firstTest bgn nd hwf hlt hout hin houtBuffer hinBuffer
  obtain ⟨n, t, hn, hreach, htried⟩ := hready.reaches_wordsTried (by rw [firstTest_params, hpolicy])
  have hend := hbegin.trans
    (hreach.trans (reaches_ended_of_loop_over (htried.params ▸ hready.wf) htried.at_test htried.loop_over))
  rw [firstTest_rem bgn nd o i hlt, Int.toNat_natCast, polledWords_eq] at hn
  have hv := firstTest_eq bgn nd o i s
  generalize firstTest bgn nd o i s = v at *
  obtain ⟨-, -, -, hsel, hviolation, hendSel, hpath', houtcome, hcount, hreads⟩ := htried
  simp only [hv, startXfer, Xfer.idle, Nat.zero_add] at houtcome hcount hreads hpath'
  have hr1 : (zext64Nat t.xfer.words).toNat = t.xfer.words := toNat_zext64Nat (by omega)
  have hr2 : (zext64Nat t.xfer.tmo).toNat = t.xfer.tmo := toNat_zext64Nat (by omega)
  rw [ended_tail_eq] at hend
  refine ⟨u, _, hexec, hend, rfl, ?_, ?_, ?_, ?_, ?_, ?_⟩
  · obtain ⟨hstatus, htmo⟩ | ⟨hstatus, htmo⟩ := houtcome <;> simp [hstatus, htmo, statusCode, zext64Nat]
  · simp [hpath', hpath, pathCode]
  · obtain ⟨hstatus, -⟩ | ⟨hstatus, -⟩ := houtcome <;> simp [hviolation, hstatus, hv, isViolation]
  · simp only [hr1, hr2]
    omega
  · simp only [hr1, hr2, hcount]
    exact hreads
  · simp [hendSel, hsel, hv, startXfer, Xfer.idle]

end Sys2Proof.Machine
end

section
/-! Decoding and encoding agree (O2, O5; spec/30_encoding.md R90 to R93): the field bits of a command are the bits of its word that
its row leaves free. The step in CHECK is the decoded command's action (O6). -/

namespace Sys2Proof

/-- A flag read from a word, put back in its place, is that bit of the word. -/
theorem flagBit_getLsbD (w : Word) (pos : Nat) : flagBit pos (w.getLsbD pos) = w &&& BitVec.twoPow 32 pos := by
  rw [BitVec.and_twoPow, flagBit, cond_eq_ite]
  rfl

/-- A field read from a word, put back in its place, is the bits of the word in the field's mask. -/
theorem extractLsb'_shiftLeft_eq_and {pos width : Nat} (w : Word) (hfit : pos + width ≤ 32) :
    (w.extractLsb' pos width).setWidth 32 <<< pos = w &&& Machine.fieldMask pos width := by
  apply BitVec.eq_of_getLsbD_eq
  intro k hk
  rw [BitVec.getLsbD_and, Machine.getLsbD_fieldMask pos width k hfit, BitVec.getLsbD_shiftLeft, BitVec.getLsbD_setWidth,
    BitVec.getLsbD_extractLsb']
  by_cases hpos : pos ≤ k
  · have hlt : k - pos < width ↔ k < pos + width := by omega
    have hback : pos + (k - pos) = k := by omega
    simp [hk, hpos, hlt, hback, Bool.and_comm, Nat.lt_of_le_of_lt (Nat.sub_le k pos) hk]
  · simp [hpos, Nat.lt_of_not_le hpos]

/-- The field bits of a command read from a word are the bits of the word outside the row's mask. -/
theorem Opcode.fieldBits_instr (w : Word) (op : Opcode) : (op.instr w).fieldBits = w &&& ~~~op.mask := by
  have hcsi : (csiField w).setWidth 32 <<< 8 = w &&& Machine.fieldMask 8 3 := extractLsb'_shiftLeft_eq_and w (by decide)
  cases op with
  | setup | release | clkCompute | setSpeed => exact (BitVec.and_zero).symm
  | claim => exact hcsi
  | modeCompute | setMode | resolve | xfer =>
    simp only [Opcode.instr, Instr.fieldBits, flagBit_getLsbD, hcsi, ← BitVec.and_or_distrib_left]
    rfl

/-- A word of a row is the encoding of the command it spells. -/
theorem Opcode.encode_instr {w : Word} {op : Opcode} (h : w &&& op.mask = op.matchWord) : encode (op.instr w) = w := by
  rw [encode, Opcode.opcode_instr, Opcode.fieldBits_instr, ← h, ← BitVec.and_or_distrib_left, BitVec.or_not_self,
    BitVec.and_allOnes]

/-- The word of a command matches the command's row. -/
theorem encode_and_mask (i : Instr) : encode i &&& i.opcode.mask = i.opcode.matchWord := by
  suffices h : Laws.EncodesInItsRow.Statement i from h.1
  cases i with
  | setup => exact Laws.EncodesInItsRow.setup
  | claim => exact Laws.EncodesInItsRow.claim _
  | release => exact Laws.EncodesInItsRow.release
  | clkCompute => exact Laws.EncodesInItsRow.clkCompute
  | setSpeed => exact Laws.EncodesInItsRow.setSpeed
  | modeCompute => exact Laws.EncodesInItsRow.modeCompute _ _ _
  | setMode => exact Laws.EncodesInItsRow.setMode _ _ _
  | resolve => exact Laws.EncodesInItsRow.resolve _ _ _
  | xfer => exact Laws.EncodesInItsRow.xfer _ _ _ _

/-- The word of a command has the command's fields. -/
theorem instr_encode (i : Instr) : i.opcode.instr (encode i) = i := by
  cases i with
  | setup | release | clkCompute | setSpeed => rfl
  | claim cs => revert cs; decide
  | modeCompute cpha cpol lsb | setMode cpha cpol lsb => revert cpha cpol lsb; decide
  | resolve cs hasOut hasIn => revert cs hasOut hasIn; decide
  | xfer beginSel endSel hasOut hasIn => revert beginSel endSel hasOut hasIn; decide

/-- Settles O2: the word of a command matches its row and has its fields, and a word of a row is the match word with the bits
outside the mask. -/
theorem decodeAndEncodeAgree : Obligations.DecodeAndEncodeAgree := by
  refine ⟨fun i => (decode_ok_iff_row _ i).2 ⟨encode_and_mask i, instr_encode i⟩, fun w i h => ?_⟩
  obtain ⟨op, hmatch, rfl⟩ := (decode_ok_iff w i).1 h
  exact Opcode.encode_instr hmatch

/-- Settles O5: the twelve words are fixed, so the decoder runs on each. -/
theorem sampleWordsDecode : Obligations.SampleWordsDecode := by
  unfold Obligations.SampleWordsDecode
  decide

/-- All 32 bits of a word, as a command word, are the word. -/
theorem tableWord_toNat (w : Word) : tableWord 32 w.toNat = w := by
  rw [tableWord, Nat.mod_eq_of_lt w.isLt, BitVec.ofNat_toNat, BitVec.setWidth_eq]

namespace Machine

/-- Settles O6: `withFetchWord` puts the word in CMD and moves FSM to CHECK, where the step is the command's action. -/
theorem stepRunsTheDecodedCommand : Obligations.StepRunsTheDecodedCommand := by
  refine ⟨fun s i => step_check, fun s w i hwf hdecode => ?_⟩
  have hfetch : s.withFetchWord 32 w.toNat = { s with cmd := w, fsm := .check } := by
    rw [State.withFetchWord, tableWord_toNat]
    rfl
  rw [hfetch]
  exact step_check hwf rfl hdecode

end Machine

end Sys2Proof
end

section
/-! The rows of R171 (O41), and the frame of a transfer (O49): a register changes by an access, and the row of a state names its
access. -/

namespace Sys2Proof.Machine

/-- From `st` the machine went from `s` to `t` as the row of R171 for `st` says. -/
def FollowsRow (st : XferState) (s t : State) : Prop :=
  t.fsm ∈ nextStates st ∧ (t.trace = s.trace ∨ ∃ ev, t.trace = s.trace ++ [ev] ∧ accessOf st ev = true)

/-- Each state of a transfer follows its row. -/
theorem xferStep_followsRow {st : XferState} {s t : State} (h : xferStep st s = .next t) : FollowsRow st s t := by
  cases st with
  | selR | selW | pLenR | pLenW | pClrR | pOutW | pInR | dWW | dBw | dselR | dselW =>
    cases h
    exact ⟨.head _, .inr ⟨_, rfl, rfl⟩⟩
  | pAdv | pTmo | done =>
    cases h
    exact ⟨.head _, .inl rfl⟩
  | body | pTest | tail =>
    cases h
    simp only [stepBody, stepPTest, stepTail]
    split
    · exact ⟨.head _, .inl rfl⟩
    · exact ⟨.tail _ (.head _), .inl rfl⟩
  | pClrW =>
    cases h
    refine ⟨?_, .inr ⟨_, rfl, rfl⟩⟩
    simp only [stepPClrW, goTo_fsm]
    split <;> simp [nextStates]
  | pPoll =>
    cases h
    refine ⟨?_, .inr ⟨_, rfl, rfl⟩⟩
    simp only [stepPPoll, goWith_fsm]
    split
    · split <;> simp [nextStates]
    · split <;> simp [nextStates]
  | dTest =>
    cases h
    unfold stepDTest
    split
    · exact ⟨.head _, .inl rfl⟩
    · split
      · exact ⟨.tail _ (.head _), .inl rfl⟩
      · exact ⟨.tail _ (.tail _ (.head _)), .inl rfl⟩
  | pOutB0 =>
    simp only [xferStep, stepPOutB0] at h
    split at h
    · cases h
      exact ⟨.tail _ (.head _), .inl rfl⟩
    · obtain ⟨-, h⟩ := memLoad_next h
      cases h
      refine ⟨?_, .inr ⟨_, rfl, rfl⟩⟩
      simp only [goWith_fsm]
      split <;> simp [nextStates]
  | pOutB1 =>
    simp only [xferStep, stepPOutB1] at h
    split at h
    · cases h
      exact ⟨.head _, .inl rfl⟩
    · obtain ⟨-, h⟩ := memLoad_next h
      cases h
      exact ⟨.head _, .inr ⟨_, rfl, rfl⟩⟩
  | pInB0 =>
    simp only [xferStep, stepPInB0] at h
    split at h
    · cases h
      exact ⟨.tail _ (.head _), .inl rfl⟩
    · obtain ⟨-, h⟩ := memStore_next h
      cases h
      refine ⟨?_, .inr ⟨_, rfl, rfl⟩⟩
      simp only [goTo_fsm]
      split <;> simp [nextStates]
  | pInB1 =>
    simp only [xferStep, stepPInB1] at h
    split at h
    · cases h
      exact ⟨.head _, .inl rfl⟩
    · obtain ⟨-, h⟩ := memStore_next h
      cases h
      exact ⟨.head _, .inr ⟨_, rfl, rfl⟩⟩
  | dRd0 | dRd1 | dRd2 | dRd3 | dBrd =>
    simp only [xferStep, stepDRd, stepDBrd] at h
    obtain ⟨-, h⟩ := memLoad_next h
    cases h
    exact ⟨.head _, .inr ⟨_, rfl, rfl⟩⟩

/-- Settles O41: a step of a transfer is the step of its state, which follows its row. -/
theorem transferStatesFollowTheTable : Obligations.TransferStatesFollowTheTable := by
  intro st s t hfsm h
  obtain ⟨hwf, -⟩ := step_cases h
  exact xferStep_followsRow (step_xfer hwf hfsm ▸ h)

/-- An access made in a state is one that the state's row names. -/
theorem FollowsRow.row {st : XferState} {s t : State} {ev : Event} (h : FollowsRow st s t) (htrace : t.trace = s.trace ++ [ev]) :
    accessOf st ev = true := by
  obtain ⟨-, hnone | ⟨e, he, hrow⟩⟩ := h
  · simp [hnone] at htrace
  · obtain rfl : e = ev := by simpa using he.symm.trans htrace
    exact hrow

/-- A register read is one access. -/
theorem regRead_trace (r : Reg) (s : State) :
    (regRead r s).trace = s.trace ++ [.regRead r (regAddr s.params r) (regPeek r s)] := by
  cases r <;> rfl

/-- A register write is one access. -/
theorem regWrite_trace (r : Reg) (v : Word) (s : State) :
    (regWrite r v s).trace = s.trace ++ [.regWrite r (regAddr s.params r) v] := by
  cases r <;> rfl

/-- The rows that name a register read. -/
theorem accessOf_regRead {st : XferState} {r : Reg} {a : Nat} {v : Word} (h : accessOf st (.regRead r a v) = true) :
    (r = .ctrl ∧ (st = .selR ∨ st = .dselR)) ∨ (r = .cfg ∧ st = .pLenR) ∨ (r = .cause ∧ (st = .pClrR ∨ st = .pPoll)) ∨
      (r = .din ∧ st = .pInR) := by
  unfold accessOf at h
  split at h <;> simp_all

/-- The rows that name a register write. -/
theorem accessOf_regWrite {st : XferState} {r : Reg} {a : Nat} {v : Word} (h : accessOf st (.regWrite r a v) = true) :
    (r = .ctrl ∧ (st = .selW ∨ st = .dselW)) ∨ (r = .cfg ∧ st = .pLenW) ∨ (r = .cause ∧ st = .pClrW) ∨
      (r = .dout ∧ st = .pOutW) := by
  unfold accessOf at h
  split at h <;> simp_all

/-- The rows that name a byte write. -/
theorem accessOf_memWrite {st : XferState} {a : Nat} {v : Byte} (h : accessOf st (.memWrite a v) = true) :
    st = .pInB0 ∨ st = .pInB1 := by
  unfold accessOf at h
  split at h <;> simp_all

/-- Settles O49: DONE writes the results, P_TMO the timeout records, and every other state only what its access writes, which its
row names. -/
theorem transferFrame : Obligations.TransferFrame := by
  intro st s t hfsm h
  obtain ⟨hwf, -⟩ := step_cases h
  rw [step_xfer hwf hfsm] at h
  have hrow := xferStep_followsRow h
  by_cases htmo : st = .pTmo
  · subst htmo
    cases h
    simp [stepPTmo, logTimeout, goWith]
  by_cases hdone : st = .done
  · subst hdone
    cases h
    simp [stepDone, setResults, endCommand]
  obtain ⟨nxt, x, u, haccess, rfl⟩ := xferStep_access htmo hdone h
  cases haccess with
  | none | memRead | winWrite => simp [goWith, emit]
  | regRead r =>
    obtain ⟨rfl, -⟩ | ⟨rfl, -⟩ | ⟨rfl, rfl | rfl⟩ | ⟨rfl, rfl⟩ := accessOf_regRead (hrow.row (regRead_trace r s)) <;>
      simp [goWith, emit]
  | regWrite r v =>
    obtain ⟨rfl, hst⟩ | ⟨rfl, hst⟩ | ⟨rfl, hst⟩ | ⟨rfl, hst⟩ := accessOf_regWrite (hrow.row (regWrite_trace r v s)) <;>
      simp [goWith, emit, hst]
  | selWrite v b =>
    have hst : st = .selW ∨ st = .dselW := by simpa using accessOf_regWrite (hrow.row rfl)
    simp [goWith, emit, hst]
  | memWrite a v => simp [goWith, emit, accessOf_memWrite (hrow.row rfl)]

end Sys2Proof.Machine
end
